-- ==== Sys2Proof/Word.lean ====
section
/-! DEFINITION. The data types the block's operands and channel are made of: bytes, pixels, bitmaps, times. -/

namespace Sys2Proof

/-- One byte, bit 0 the least significant (00_scope section 5.1). -/
abbrev Byte := BitVec 8

/-- A byte string, the byte sent first at the head (00_scope section 5.1). -/
abbrev Bytes := List Byte

/-- A pixel intensity; its bound `2 ^ PIX_BITS` is checked in WellFormed (00_scope section 5.2, R31). -/
abbrev Pixel := Nat

/-- A time in ticks: an unbounded integer (R13, R151). -/
abbrev Time := Int

/-- A bitmap operand: width, height and the pixels in row-major order (00_scope section 5.2, R31). Whether
`pix` has `w * h` elements is a contract check of the operations (R86, R121), not part of the type. -/
structure Bitmap where
  w : Nat
  h : Nat
  pix : List Pixel
  deriving DecidableEq, Repr, Inhabited

end Sys2Proof
end

