-- ==== Sys2Proof/Syntax.lean ====
section
/-! DEFINITION. The operations of the block, one constructor per row of the opcode table, and the form in
which the host presents one. -/

namespace Sys2Proof

/-- The thirteen operations (R9). Coordinates, sizes, counts and levels are integers: a negative one is a
contract violation, not an impossible operand (R52, R162). -/
inductive Instr
  /-- RESET (R96): the device's reset packet; it resets nothing inside the block. -/
  | reset
  /-- CLEAR (R97). -/
  | clear
  /-- MOVE_CURSOR(x, y), pixel column and row (R98). -/
  | moveCursor (x y : Int)
  /-- SET_BRIGHTNESS(level), level = levelNum / LEVEL_DEN (R99). -/
  | setBrightness (levelNum : Int)
  /-- SHOW_IMAGE(bitmap, width, height) (R100). -/
  | showImage (bitmap : Bitmap) (width height : Int)
  /-- SCROLL(x, y, times, speed) (R101). -/
  | scroll (x y times speed : Int)
  /-- SLEEP (R102): the host's own sleep packet. -/
  | sleep
  /-- WAKE (R103): the host's own wake packet. -/
  | wake
  /-- PACK(bitmap, w, h) (R86). -/
  | pack (bitmap : Bitmap) (w h : Int)
  /-- WRITE(packet) (R71). -/
  | write (packet : Bytes)
  /-- UPDATE(new_frame) (R121). -/
  | update (frame : Bitmap)
  /-- DISCARD_PREV (R130). -/
  | discardPrev
  /-- IDLE_STEP (R141), the micro-operation IDLESTEP(is_blank); never issued by the host (R9). -/
  | idleStep (isBlank : Bool)
  deriving DecidableEq, Repr

/-- What stands on the host command port when the host issues an operation: the selector number of R62 and
the operand ports. An operation reads the ports R61's call syntax gives it, in that order, and ignores the
others. DESIGN CHOICE (log entry 7): the spec gives the selector numbers and no operand layout. -/
structure HostCommand where
  selector : Fin 16
  arg0 : Int
  arg1 : Int
  arg2 : Int
  arg3 : Int
  bitmap : Bitmap
  packet : Bytes
  deriving DecidableEq, Repr

end Sys2Proof
end

