-- ==== Sys2Proof/Config.lean ====
section
/-! DEFINITION. The parameters of the block (R6, R7), the record of inputs of one step (R24), and the free
values. -/

namespace Sys2Proof

/-- What `round` does at exactly one half (R7 ROUND_TIES, D3). -/
inductive RoundTies
  | halfUp
  | halfEven
  deriving DecidableEq, Repr

/-- Where in an UPDATE the idle step runs (R7 IDLE_ORDER, R127, D5). -/
inductive IdleOrder
  | afterTransmit
  | beforeTransmit
  deriving DecidableEq, Repr

/-- The parameters of R6 and R7. No operation writes them. Which values are legal is `Config.Legal` in
WellFormed. -/
structure Config where
  /-- W, display width in pixels. -/
  dispW : Nat
  /-- H, display height in pixels. -/
  dispH : Nat
  /-- N, transport chunk size in bytes. -/
  chunk : Nat
  /-- SCREENSAVER_DELAY in seconds, as the rational delayNum / delayDen (log entry 9). -/
  delayNum : Nat
  delayDen : Nat
  /-- INITIAL_BRIGHTNESS, as a numerator over LEVEL_DEN (log entry 10). -/
  initialBrightness : Nat
  opcReset : Bytes
  opcClear : Bytes
  opcCursor : Bytes
  opcBrightness : Bytes
  opcImage : Bytes
  imgMode : Byte
  opcScroll : Bytes
  opcSleep : Bytes
  opcWake : Bytes
  roundTies : RoundTies
  /-- REV_SCAN_LOW, lowest row of the reverse scan (R124, D4). -/
  revScanLow : Nat
  idleOrder : IdleOrder
  ticksPerSecond : Nat
  pixBits : Nat
  levelDen : Nat
  /-- CNT_MAX; `none` is the unbounded counter (R14, D8). -/
  cntMax : Option Nat
  /-- BOOT_SEQ (R191). -/
  bootSeq : List Instr
  deriving DecidableEq, Repr

/-- THRESHOLD, "fixed constant 1, not configurable" (R6). -/
def Config.threshold : Nat := 1

/-- The values the environment presents at one step (R24 READY, NOW, CH_ERR, CH_OPEN; R44 drain; R164 q).
A step reads the ones its rule names. -/
structure Inputs where
  /-- READY, true when asserted. -/
  ready : Bool
  /-- NOW, in ticks. -/
  now : Int
  /-- CH_ERR, true when the channel raises at this step's write or flush. -/
  chErr : Bool
  /-- CH_OPEN. -/
  chOpen : Bool
  /-- When it is between 1 and the length of OUTBUF, this step is the channel's `drain(k)` (R44). -/
  drain : Nat
  /-- The length of R164's q, taken from the front of B ++ C (all of it where it is longer). -/
  errSent : Nat
  deriving DecidableEq, Repr, Inhabited

/-- FREE VALUE: the inputs of the n-th step at which `State.inputs` lists none. No body: every claim about
them holds for every draw (R24). Log entry 5. -/
opaque Config.freeInputs : Nat → Inputs

/-- FREE VALUE: INITIAL_BRIGHTNESS of `Config.default`, over LEVEL_DEN = 256; the spec gives no default
(N4). Log entry 3. -/
opaque Config.freeInitialBrightness : Fin 257

/-- The parameters of the machine after `State.reset`: the document's values and the defaults of R7. W and H
are the document's example (DESIGN CHOICE, log entry 2), the opcode bytes and IMG_MODE are assumed
(PRESUMED, log entry 4), INITIAL_BRIGHTNESS is free (log entry 3). -/
def Config.default : Config where
  dispW := 140
  dispH := 32
  chunk := 4
  delayNum := 60
  delayDen := 1
  initialBrightness := Config.freeInitialBrightness.val
  opcReset := [0x1B, 0x40]
  opcClear := [0x0C]
  opcCursor := [0x1F, 0x24]
  opcBrightness := [0x1F, 0x58]
  opcImage := [0x1F, 0x28, 0x66, 0x11]
  imgMode := 0x01
  opcScroll := [0x1F, 0x28, 0x61, 0x10]
  opcSleep := [0x1F, 0x28, 0x61, 0x40, 0x00]
  opcWake := [0x1F, 0x28, 0x61, 0x40, 0x01]
  roundTies := .halfUp
  revScanLow := 1
  idleOrder := .afterTransmit
  ticksPerSecond := 1
  pixBits := 1
  levelDen := 256
  cntMax := none
  bootSeq := [.setBrightness Config.freeInitialBrightness.val]

end Sys2Proof
end

