-- ==== Sys2Proof/Machine/Micro.lean ====
section
/-! DEFINITION. The types of the sequencing state: causes, results, idle states, transport phases,
micro-operations, channel events. -/

namespace Sys2Proof.Machine

/-- The causes of a contract violation (R162). -/
inductive Cause
  | dimMismatch
  | heightNotMult8
  | bitmapSize
  | fieldRange
  | brightnessRange
  deriving DecidableEq, Repr

/-- The values of RESULT (R17). -/
inductive Result
  | ok
  | noChange
  | fullUpdate
  | bandUpdate (startY endY : Nat)
  | packed (bytes : Bytes)
  | contractViolation (cause : Cause)
  | transportError
  deriving DecidableEq, Repr

/-- IDLE (R12). -/
inductive Idle
  | awake
  | countingEmpty
  | asleep
  deriving DecidableEq, Repr

/-- The two edges an IDLECOMMIT ends: IDLECOMMIT(ASLEEP) and IDLECOMMIT(AWAKE) (R147, R148). -/
inductive IdleEdge
  | asleep
  | awake
  deriving DecidableEq, Repr

/-- TX_PHASE (R21). -/
inductive TxPhase
  | idle
  | pollPre
  | write
  | pollPost
  | flush
  deriving DecidableEq, Repr

/-- The micro-operations (R20). -/
inductive MicroOp
  | tx (pkt : Bytes)
  | setPrev (frame : Bitmap)
  | idleStep (isBlank : Bool)
  | idleCommit (edge : IdleEdge)
  | done (r : Result)
  deriving DecidableEq, Repr

/-- Which channel call failed (R23, R78). -/
inductive ErrorSite
  | write
  | flush
  deriving DecidableEq, Repr

/-- The events of TRACE (R23). -/
inductive Event
  | poll (v : Bool)
  | write (chunk : Bytes)
  | flush
  | error (site : ErrorSite)
  deriving DecidableEq, Repr

end Sys2Proof.Machine
end

