-- ==== Sys2Proof/Machine/Operands.lean ====
section
/-! DEFINITION. The operand forms: numbers and fields of packets, pixels and bitmaps, the Bit-Packer, the
difference of two frames, chunks, times, and the contract checks. Everything here is a function of the
configuration and the operands alone. -/

namespace Sys2Proof.Machine

/-! ## Numbers (00_scope section 5.1) -/

/-- `lo8(v) = v mod 256`. -/
def lo8 (v : Nat) : Byte := BitVec.ofNat 8 (v % 256)

/-- `hi8(v) = v / 256`. -/
def hi8 (v : Nat) : Byte := BitVec.ofNat 8 (v / 256)

/-- `le16(v)`: low byte, then high byte (R34, R52). -/
def le16 (v : Nat) : Bytes := [lo8 v, hi8 v]

/-- The value of a little-endian two-byte field (R34). -/
def ofLe16 (l h : Byte) : Nat := l.toNat + 256 * h.toNat

/-- `clamp(v, lo, hi) = min(max(v, lo), hi)`. -/
def clamp (v l h : Nat) : Nat := min (max v l) h

/-- `ceil8(v)`: v rounded up to a multiple of 8. -/
def ceil8 (v : Nat) : Nat := if v % 8 = 0 then v else (v / 8 + 1) * 8

/-- `round(num / den)`: the nearest integer, a tie by ROUND_TIES (D3). -/
def roundQ (ties : RoundTies) (num den : Nat) : Nat :=
  let q := num / den
  let r := num % den
  if 2 * r < den then q
  else if den < 2 * r then q + 1
  else match ties with
    | .halfUp => q + 1
    | .halfEven => if q % 2 = 0 then q else q + 1

/-! ## Fields of packets -/

/-- The brightness byte `clamp(round(level·8), 1, 8)`, as a number (R54). -/
def brightnessLevel (c : Config) (levelNum : Nat) : Nat :=
  clamp (roundQ c.roundTies (8 * levelNum) c.levelDen) 1 8

/-- The scroll address `(x·H)/8 + y/8` (R55). -/
def scrollAddr (c : Config) (x y : Nat) : Nat := (x * c.dispH) / 8 + y / 8

/-! ## Pixels (00_scope section 5.2) -/

/-- `set(p)`: p ≥ THRESHOLD. -/
def isSet (p : Pixel) : Bool := decide (Config.threshold ≤ p)

/-- `Pix(B, x, y) = B.pix[y·w + x]` (R31). Every caller has checked the bitmap's size and asks inside it; the
0 beyond the end is never used by a step (log entry 12). -/
def pixel (b : Bitmap) (x y : Nat) : Pixel := b.pix.getD (y * b.w + x) 0

/-- `Rows(B, a, e)`: rows a .. e−1 of B. -/
def rows (b : Bitmap) (a e : Nat) : Bitmap where
  w := b.w
  h := e - a
  pix := (b.pix.drop (a * b.w)).take ((e - a) * b.w)

/-- `blank(B)`: no pixel is set. -/
def blank (b : Bitmap) : Bool := b.pix.all (fun p => !isSet p)

/-- The bitmap is w by h: its size fields say so and it holds exactly w·h pixels (R86, R121). -/
def sized (b : Bitmap) (w h : Int) : Bool :=
  decide ((b.w : Int) = w) && decide ((b.h : Int) = h) && decide (b.pix.length = b.w * b.h)

/-- A frame: a W by H bitmap (00_scope section 5.2). -/
def isFrame (c : Config) (b : Bitmap) : Bool := sized b c.dispW c.dispH

/-! ## The Bit-Packer (R86) -/

/-- The byte of column x and page p: bit i is pixel (x, 8p + i). -/
def packByte (b : Bitmap) (x p : Nat) : Byte :=
  BitVec.ofNat 8 ((List.range 8).map (fun i => if isSet (pixel b x (8 * p + i)) then 2 ^ i else 0)).sum

/-- PACK: byte `x·(h/8) + p` is `packByte b x p`. -/
def packBytes (b : Bitmap) (w h : Nat) : Bytes :=
  (List.range w).flatMap (fun x => (List.range (h / 8)).map (fun p => packByte b x p))

/-- The bitmap of w columns and p pages whose packing is the payload (R88 read backwards). -/
def unpackBytes (payload : Bytes) (w p : Nat) : Bitmap where
  w := w
  h := 8 * p
  pix := (List.range (8 * p)).flatMap (fun y =>
    (List.range w).map (fun x => if (payload.getD (x * p + y / 8) 0).getLsbD (y % 8) then 1 else 0))

/-! ## The difference of two frames (R121, R124, R125, R129) -/

/-- Row y differs: some column is set in one frame and not in the other (R129). -/
def rowDiffers (c : Config) (f p : Bitmap) (y : Nat) : Bool :=
  (List.range c.dispW).any (fun x => isSet (pixel f x y) != isSet (pixel p x y))

/-- D, the differing rows from the top down. -/
def diffRows (c : Config) (f p : Bitmap) : List Nat :=
  (List.range c.dispH).filter (rowDiffers c f p)

/-- `raw_start`: the forward scan's first row. -/
def rawStart (c : Config) (f p : Bitmap) : Option Nat := (diffRows c f p).head?

/-- `raw_end`: the reverse scan's first row; it stops at REV_SCAN_LOW (R124). -/
def rawEnd (c : Config) (f p : Bitmap) : Option Nat :=
  ((diffRows c f p).filter (fun y => decide (c.revScanLow ≤ y))).getLast?

/-- `start_y` of R125. -/
def startY (c : Config) (rs : Nat) : Nat := clamp (roundQ c.roundTies rs 8 * 8) 0 c.dispH

/-- `end_y` of R125. -/
def endY (c : Config) (re : Nat) : Nat := clamp (ceil8 re) 0 c.dispH

/-- The band of R121 steps 2 to 5, or none where nothing is to be sent (R123, R124). -/
def band (c : Config) (f p : Bitmap) : Option (Nat × Nat) :=
  match rawStart c f p, rawEnd c f p with
  | some rs, some re => some (startY c rs, endY c re)
  | _, _ => none

/-! ## Chunks (R71) -/

/-- `packet[off : min(off + N, len(packet))]`. -/
def chunkAt (n : Nat) (pkt : Bytes) (off : Nat) : Bytes := (pkt.drop off).take n

/-- The `ceil(len/N)` chunks of a packet. -/
def chunks (n : Nat) (pkt : Bytes) : List Bytes :=
  (List.range ((pkt.length + n - 1) / n)).map (fun j => chunkAt n pkt (j * n))

/-! ## Times and counts -/

/-- `elapsed ≥ SCREENSAVER_DELAY · TICKS_PER_SECOND`, in integers (R141, R151; log entry 9). -/
def delayReached (c : Config) (elapsed : Time) : Bool :=
  decide (((c.delayNum * c.ticksPerSecond : Nat) : Int) ≤ elapsed * c.delayDen)

/-- `min(EMPTY_COUNT + 1, CNT_MAX)` (R14, R141). -/
def bumpCount (c : Config) (n : Nat) : Nat :=
  match c.cntMax with
  | none => n + 1
  | some m => min (n + 1) m

/-! ## Contract checks, in the order of each operation's pseudocode (R56, R162, R167) -/

/-- R98. -/
def violationMoveCursor (x y : Int) : Option Cause :=
  if x < 0 ∨ 65535 < x then some .fieldRange
  else if y < 0 ∨ 65535 < y / 8 then some .fieldRange
  else none

/-- R99. -/
def violationSetBrightness (c : Config) (levelNum : Int) : Option Cause :=
  if levelNum < 0 ∨ (c.levelDen : Int) < levelNum then some .brightnessRange else none

/-- R86. -/
def violationPack (b : Bitmap) (w h : Int) : Option Cause :=
  if h % 8 ≠ 0 then some .heightNotMult8
  else if sized b w h = false then some .bitmapSize
  else none

/-- R100. -/
def violationShowImage (b : Bitmap) (width height : Int) : Option Cause :=
  if height % 8 ≠ 0 then some .heightNotMult8
  else if sized b width height = false then some .bitmapSize
  else if width < 0 ∨ 65535 < width then some .fieldRange
  else if height < 0 ∨ 65535 < height / 8 then some .fieldRange
  else none

/-- R101. -/
def violationScroll (c : Config) (x y times speed : Int) : Option Cause :=
  if x < 0 ∨ y < 0 then some .fieldRange
  else if 65535 < (x * c.dispH) / 8 + y / 8 then some .fieldRange
  else if times < 0 ∨ 65535 < times then some .fieldRange
  else if speed < 0 ∨ 255 < speed then some .fieldRange
  else none

/-- R121, R131. -/
def violationUpdate (c : Config) (f : Bitmap) : Option Cause :=
  if isFrame c f then none else some .dimMismatch

end Sys2Proof.Machine
end

