-- ==== Sys2Proof/WellFormed.lean ====
section
/-! DEFINITION. Which operands an operation can carry and which configurations a block can have. -/

namespace Sys2Proof

/-- Every pixel is one of the `2 ^ PIX_BITS` intensities (00_scope section 5.2, R31). -/
def Bitmap.pixelsInRange (c : Config) (b : Bitmap) : Bool :=
  b.pix.all (fun p => decide (p < 2 ^ c.pixBits))

/-- A well-formed operation: its operands are values the block's operand ports can present. Sizes and ranges
that the spec makes contract violations are not checked here: those operations run, and violate. -/
def Instr.wellFormed (c : Config) : Instr → Bool
  | .reset => true
  | .clear => true
  | .moveCursor _ _ => true
  | .setBrightness _ => true
  | .showImage b _ _ => b.pixelsInRange c
  | .scroll _ _ _ _ => true
  | .sleep => true
  | .wake => true
  | .pack b _ _ => b.pixelsInRange c
  | .write _ => true
  | .update b => b.pixelsInRange c
  | .discardPrev => true
  | .idleStep _ => true

/-- The geometry of R6 and R8: 1 ≤ W ≤ 65535, H a positive multiple of 8 with H/8 ≤ 65535, N ≥ 1. -/
abbrev Config.legalSizes (c : Config) : Prop :=
  1 ≤ c.dispW ∧ c.dispW ≤ 65535 ∧ 8 ≤ c.dispH ∧ c.dispH % 8 = 0 ∧ c.dispH / 8 ≤ 65535 ∧ 1 ≤ c.chunk

/-- The opcode lengths of R7 and R57, and OPC_SLEEP ≠ OPC_WAKE (D2). -/
abbrev Config.legalOpcodes (c : Config) : Prop :=
  c.opcReset.length = 2 ∧ c.opcClear.length = 1 ∧ 1 ≤ c.opcCursor.length ∧ 1 ≤ c.opcBrightness.length ∧
  1 ≤ c.opcImage.length ∧ 1 ≤ c.opcScroll.length ∧ c.opcSleep.length = 5 ∧ c.opcWake.length = 5 ∧
  c.opcSleep ≠ c.opcWake

/-- The other bounds of R7 and R193. That a finite CNT_MAX is at least 1 is DEDUCED (log entry 11): R143
writes 1 and R14 bounds the count by CNT_MAX. -/
abbrev Config.legalScalars (c : Config) : Prop :=
  1 ≤ c.delayDen ∧ 1 ≤ c.levelDen ∧ c.initialBrightness ≤ c.levelDen ∧ c.revScanLow ≤ 1 ∧
  1 ≤ c.ticksPerSecond ∧ 1 ≤ c.pixBits ∧ ∀ m ∈ c.cntMax, 1 ≤ m

/-- A legal configuration but for BOOT_SEQ (R8, R193, U18); `bootLegal` in Machine/Expansion adds
that. -/
abbrev Config.Legal (c : Config) : Prop := c.legalSizes ∧ c.legalOpcodes ∧ c.legalScalars

/-- The eight opcode strings, in the order of the opcode table. -/
def Config.opcodes (c : Config) : List Bytes :=
  [c.opcReset, c.opcClear, c.opcCursor, c.opcBrightness, c.opcImage, c.opcScroll, c.opcSleep, c.opcWake]

/-- No opcode string begins another (R58 says so of the defaults); only then can the wire be cut. -/
abbrev Config.PrefixFree (c : Config) : Prop :=
  c.opcodes.Pairwise (fun a b => ¬ a <+: b ∧ ¬ b <+: a)

end Sys2Proof
end

