-- ==== Sys2Proof/Decode.lean ====
section
/-! DEFINITION. The two encodings of operations the spec gives: packets on the wire (R51, R57; read as R58
says) and commands on the host port (R62). Decoders, then encoders. The block itself decodes no packet
(R59): the wire reader is what a reader of WIRE does. -/

namespace Sys2Proof

open Sys2Proof.Machine

/-- Why bytes are no packet, or a command no operation. -/
inductive Reject
  /-- there is no byte to read. -/
  | empty
  /-- no opcode string of the configuration begins the bytes (R59). -/
  | unknownOpcode
  /-- the bytes end before the packet's operands do. -/
  | truncated
  /-- a brightness byte no operation sends and that is not 0 (R54, R59). -/
  | brightnessByte
  /-- selectors 12 to 15 (R62). -/
  | noSuchSelector
  deriving DecidableEq, Repr

/-! ## Reading packets -/

/-- The bytes after an opcode string, where it begins them. -/
def stripOpcode : Bytes → Bytes → Option Bytes
  | [], bs => some bs
  | _ :: _, [] => none
  | o :: os, b :: bs => if o = b then stripOpcode os bs else none

/-- Format F0: no operands. -/
def readF0 (i : Instr) (bs : Bytes) : Except Reject (Instr × Bytes) := .ok (i, bs)

/-- Format F1: x, then the page; the rows of a page all encode alike, so y is read as the page's top row
(R53, R98). -/
def readF1 : Bytes → Except Reject (Instr × Bytes)
  | xl :: xh :: pl :: ph :: rest => .ok (.moveCursor (ofLe16 xl xh) (8 * ofLe16 pl ph : Nat), rest)
  | _ => .error .truncated

/-- The least LEVEL_NUM that is sent as the byte n. DESIGN CHOICE (log entry 8): many levels share a byte,
and the byte 0, which no operation sends, reads as level 0. -/
def levelOf (c : Config) (n : Nat) : Option Nat :=
  if n = 0 then some 0
  else (List.range (c.levelDen + 1)).find? (fun k => brightnessLevel c k == n)

/-- Format F2: the brightness byte (R54). -/
def readF2 (c : Config) : Bytes → Except Reject (Instr × Bytes)
  | n :: rest =>
    match levelOf c n.toNat with
    | some k => .ok (.setBrightness k, rest)
    | none => .error .brightnessByte
  | [] => .error .truncated

/-- Format F3: width, pages, the mode byte, then one payload byte for each column and page (R58, R60). R58's
reader cuts by the lengths alone and does not look at the mode byte (log entry 8). -/
def readF3 : Bytes → Except Reject (Instr × Bytes)
  | wl :: wh :: hl :: hh :: _ :: rest =>
    let w := ofLe16 wl wh
    let p := ofLe16 hl hh
    if rest.length < w * p then .error .truncated
    else .ok (.showImage (unpackBytes (rest.take (w * p)) w p) w (8 * p : Nat), rest.drop (w * p))
  | _ => .error .truncated

/-- Format F4: the address is read as the position (x, y) with y the top row of its page (R33, R55). -/
def readF4 (c : Config) : Bytes → Except Reject (Instr × Bytes)
  | al :: ah :: cl :: ch :: sp :: rest =>
    let a := ofLe16 al ah
    .ok (.scroll (a / (c.dispH / 8) : Nat) (8 * (a % (c.dispH / 8)) : Nat) (ofLe16 cl ch) sp.toNat, rest)
  | _ => .error .truncated

/-- The opcode map (R57): each kind's opcode string and how its operands are read. -/
def packetForms (c : Config) : List (Bytes × (Bytes → Except Reject (Instr × Bytes))) :=
  [(c.opcReset, readF0 .reset), (c.opcClear, readF0 .clear), (c.opcCursor, readF1),
   (c.opcBrightness, readF2 c), (c.opcImage, readF3), (c.opcScroll, readF4 c),
   (c.opcSleep, readF0 .sleep), (c.opcWake, readF0 .wake)]

/-- The first kind whose opcode string begins the bytes. -/
def readWith : List (Bytes × (Bytes → Except Reject (Instr × Bytes))) → Bytes →
    Except Reject (Instr × Bytes)
  | [], _ => .error .unknownOpcode
  | (opc, operands) :: forms, bs =>
    match stripOpcode opc bs with
    | some rest => operands rest
    | none => readWith forms bs

/-- One packet off the front of a byte string: the operation, and the bytes after it (R58). -/
def decode (c : Config) (bs : Bytes) : Except Reject (Instr × Bytes) :=
  match bs with
  | [] => .error .empty
  | _ => readWith (packetForms c) bs

/-- WIRE cut into packets from its start (R58); the fuel bounds the number of packets. -/
def readWire (c : Config) : Nat → Bytes → Except Reject (List Instr)
  | _, [] => .ok []
  | 0, _ :: _ => .error .truncated
  | k + 1, b :: bs =>
    match decode c (b :: bs) with
    | .error e => .error e
    | .ok (i, rest) =>
      match readWire c k rest with
      | .error e => .error e
      | .ok is => .ok (i :: is)

/-! ## Reading commands of the host port (R61, R62) -/

/-- The operation a command selects. -/
def decodeCommand (cmd : HostCommand) : Except Reject Instr :=
  match cmd.selector.val with
  | 0 => .ok .reset
  | 1 => .ok .clear
  | 2 => .ok (.moveCursor cmd.arg0 cmd.arg1)
  | 3 => .ok (.setBrightness cmd.arg0)
  | 4 => .ok (.showImage cmd.bitmap cmd.arg0 cmd.arg1)
  | 5 => .ok (.scroll cmd.arg0 cmd.arg1 cmd.arg2 cmd.arg3)
  | 6 => .ok .sleep
  | 7 => .ok .wake
  | 8 => .ok (.pack cmd.bitmap cmd.arg0 cmd.arg1)
  | 9 => .ok (.write cmd.packet)
  | 10 => .ok (.update cmd.bitmap)
  | 11 => .ok .discardPrev
  | _ => .error .noSuchSelector

/-- The operation of a table word. The table's numbers are "most significant byte first = first byte on the
wire" (opcode_table.json's note), so the nbits of w are cut into bytes from the top; the bytes beyond are 0
(log entry 13). -/
def tableBytes (nbits w : Nat) : Bytes :=
  (List.range (nbits / 8)).map (fun k => BitVec.ofNat 8 (w / 256 ^ (nbits / 8 - 1 - k) % 256)) ++
    List.replicate 16 0

def decodeTableWord (nbits w : Nat) : Option Instr :=
  match decode Config.default (tableBytes nbits w) with
  | .ok (i, _) => some i
  | .error _ => none

/-! ## Packets (R51) -/

/-- Format F1 (R98). -/
def cursorPacket (c : Config) (x y : Nat) : Bytes := c.opcCursor ++ le16 x ++ le16 (y / 8)

/-- Format F2 (R99). -/
def brightnessPacket (c : Config) (levelNum : Nat) : Bytes :=
  c.opcBrightness ++ [BitVec.ofNat 8 (brightnessLevel c levelNum)]

/-- Format F3 (R100). -/
def imagePacket (c : Config) (b : Bitmap) (w h : Nat) : Bytes :=
  c.opcImage ++ le16 w ++ le16 (h / 8) ++ [c.imgMode] ++ packBytes b w h

/-- Format F4 (R101). -/
def scrollPacket (c : Config) (x y times speed : Nat) : Bytes :=
  c.opcScroll ++ le16 (scrollAddr c x y) ++ le16 times ++ [BitVec.ofNat 8 speed]

/-- The packet of an operation that is one: an operation that has a wire format and violates no contract. -/
def encode (c : Config) : Instr → Option Bytes
  | .reset => some c.opcReset
  | .clear => some c.opcClear
  | .moveCursor x y =>
    match violationMoveCursor x y with
    | some _ => none
    | none => some (cursorPacket c x.toNat y.toNat)
  | .setBrightness l =>
    match violationSetBrightness c l with
    | some _ => none
    | none => some (brightnessPacket c l.toNat)
  | .showImage b w h =>
    match violationShowImage b w h with
    | some _ => none
    | none => some (imagePacket c b w.toNat h.toNat)
  | .scroll x y t sp =>
    match violationScroll c x y t sp with
    | some _ => none
    | none => some (scrollPacket c x.toNat y.toNat t.toNat sp.toNat)
  | .sleep => some c.opcSleep
  | .wake => some c.opcWake
  | .pack _ _ _ => none
  | .write _ => none
  | .update _ => none
  | .discardPrev => none
  | .idleStep _ => none

/-- The operation with what its packet does not carry taken out: the low three bits of a row (R53), the
intensity above the threshold (R88), the level within its byte (R54), and the choice of (x, y) for a scroll
address (R55). Two operations of one kind have the same packet when these agree. -/
def canonical (c : Config) : Instr → Instr
  | .moveCursor x y => .moveCursor x (y / 8 * 8)
  | .setBrightness l =>
    .setBrightness (((levelOf c (brightnessLevel c l.toNat)).getD 0 : Nat) : Int)
  | .showImage b w h =>
    .showImage { b with pix := b.pix.map (fun p => if isSet p then 1 else 0) } w h
  | .scroll x y t sp =>
    .scroll (scrollAddr c x.toNat y.toNat / (c.dispH / 8) : Nat)
      (8 * (scrollAddr c x.toNat y.toNat % (c.dispH / 8)) : Nat) t sp
  | .reset => .reset
  | .clear => .clear
  | .sleep => .sleep
  | .wake => .wake
  | .pack b w h => .pack b w h
  | .write p => .write p
  | .update f => .update f
  | .discardPrev => .discardPrev
  | .idleStep b => .idleStep b

/-! ## Commands of the host port (R62) -/

/-- A selector with nothing on the operand ports. -/
def bareCommand (n : Fin 16) : HostCommand where
  selector := n
  arg0 := 0
  arg1 := 0
  arg2 := 0
  arg3 := 0
  bitmap := { w := 0, h := 0, pix := [] }
  packet := []

/-- The command that issues an operation; IDLE_STEP has none (R62). -/
def encodeCommand : Instr → Option HostCommand
  | .reset => some (bareCommand 0)
  | .clear => some (bareCommand 1)
  | .moveCursor x y => some { bareCommand 2 with arg0 := x, arg1 := y }
  | .setBrightness l => some { bareCommand 3 with arg0 := l }
  | .showImage b w h => some { bareCommand 4 with arg0 := w, arg1 := h, bitmap := b }
  | .scroll x y t sp => some { bareCommand 5 with arg0 := x, arg1 := y, arg2 := t, arg3 := sp }
  | .sleep => some (bareCommand 6)
  | .wake => some (bareCommand 7)
  | .pack b w h => some { bareCommand 8 with arg0 := w, arg1 := h, bitmap := b }
  | .write p => some { bareCommand 9 with packet := p }
  | .update f => some { bareCommand 10 with bitmap := f }
  | .discardPrev => some (bareCommand 11)
  | .idleStep _ => none

/-- The selector numbers that select an operation (R62). -/
def HostCommand.selects (cmd : HostCommand) : Bool := decide (cmd.selector.val ≤ 11)

end Sys2Proof
end

