-- ==== Sys2Proof/Machine/Expansion.lean ====
section
/-! DEFINITION. What issuing an operation installs in SEQ (R20), or the contract violation it raises: the
issue pseudocode of each operation's rule, over the configuration, the operands and PREV. -/

namespace Sys2Proof.Machine

/-- The list an issue installs, or the cause of the violation. -/
abbrev Expansion := Except Cause (List MicroOp)

/-- The check first; the list only where it passes (R95, D17). -/
def checked (v : Option Cause) (l : List MicroOp) : Expansion :=
  match v with
  | some k => .error k
  | none => .ok l

/-- `[TX(pkt), DONE(OK)]` (R95). -/
def sendOne (pkt : Bytes) : List MicroOp := [.tx pkt, .done .ok]

/-- R96. -/
def expandReset (c : Config) : Expansion := .ok (sendOne c.opcReset)

/-- R97. -/
def expandClear (c : Config) : Expansion := .ok (sendOne c.opcClear)

/-- R98. -/
def expandMoveCursor (c : Config) (x y : Int) : Expansion :=
  checked (violationMoveCursor x y) (sendOne (cursorPacket c x.toNat y.toNat))

/-- R99. -/
def expandSetBrightness (c : Config) (levelNum : Int) : Expansion :=
  checked (violationSetBrightness c levelNum) (sendOne (brightnessPacket c levelNum.toNat))

/-- R100. -/
def expandShowImage (c : Config) (b : Bitmap) (width height : Int) : Expansion :=
  checked (violationShowImage b width height) (sendOne (imagePacket c b width.toNat height.toNat))

/-- R101. -/
def expandScroll (c : Config) (x y times speed : Int) : Expansion :=
  checked (violationScroll c x y times speed)
    (sendOne (scrollPacket c x.toNat y.toNat times.toNat speed.toNat))

/-- R102. -/
def expandSleep (c : Config) : Expansion := .ok (sendOne c.opcSleep)

/-- R103. -/
def expandWake (c : Config) : Expansion := .ok (sendOne c.opcWake)

/-- R86. -/
def expandPack (b : Bitmap) (w h : Int) : Expansion :=
  checked (violationPack b w h) [.done (.packed (packBytes b w.toNat h.toNat))]

/-- R71. -/
def expandWrite (packet : Bytes) : Expansion := .ok (sendOne packet)

/-- R121's `cur(y)`. -/
def updateCursor (c : Config) (y : Nat) : Bytes := cursorPacket c 0 y

/-- R121's `img(F, s, e)`. -/
def updateImage (c : Config) (f : Bitmap) (s e : Nat) : Bytes :=
  imagePacket c (rows f s e) c.dispW (e - s)

/-- The packets of a band and the store to PREV (R121 steps 6 and 7, R126). -/
def sendBand (c : Config) (f : Bitmap) (s e : Nat) : List MicroOp :=
  [.tx (updateCursor c s), .tx (updateImage c f s e), .setPrev f]

/-- R121's `body` and `r`. -/
def updateBody (c : Config) (prev : Option Bitmap) (f : Bitmap) : List MicroOp × Result :=
  match prev with
  | none => (sendBand c f 0 c.dispH, .fullUpdate)
  | some p =>
    match band c f p with
    | none => ([], .noChange)
    | some (s, e) => (sendBand c f s e, .bandUpdate s e)

/-- Where the idle step stands (R127). -/
def withIdleStep (c : Config) (b : Bool) (body : List MicroOp) (r : Result) : List MicroOp :=
  match c.idleOrder with
  | .afterTransmit => body ++ [.idleStep b, .done r]
  | .beforeTransmit => [.idleStep b] ++ body ++ [.done r]

/-- R121. -/
def expandUpdate (c : Config) (prev : Option Bitmap) (f : Bitmap) : Expansion :=
  checked (violationUpdate c f)
    (withIdleStep c (blank f) (updateBody c prev f).1 (updateBody c prev f).2)

/-- R130, its SEQ part. -/
def expandDiscardPrev : Expansion := .ok [.done .ok]

/-! ## The boot sequence (R191) -/

/-- The expansion of an operation of BOOT_SEQ, with PREV absent as at reset; none for one that violates its
contract and for IDLE_STEP, which is no operation the block can be asked for (log entry 14). -/
def bootOne (c : Config) : Instr → Option (List MicroOp)
  | .reset => (expandReset c).toOption
  | .clear => (expandClear c).toOption
  | .moveCursor x y => (expandMoveCursor c x y).toOption
  | .setBrightness l => (expandSetBrightness c l).toOption
  | .showImage b w h => (expandShowImage c b w h).toOption
  | .scroll x y t sp => (expandScroll c x y t sp).toOption
  | .sleep => (expandSleep c).toOption
  | .wake => (expandWake c).toOption
  | .pack b w h => (expandPack b w h).toOption
  | .write p => (expandWrite p).toOption
  | .update f => (expandUpdate c none f).toOption
  | .discardPrev => expandDiscardPrev.toOption
  | .idleStep _ => none

/-- BOOT_SEQ is one the block can perform: each of its operations has an expansion. -/
def bootLegal (c : Config) : Prop := ∀ i ∈ c.bootSeq, (bootOne c i).isSome = true

/-- "the concatenation of their expansions with every DONE but the last removed" (R191). -/
def bootExpansion (c : Config) : List Instr → List MicroOp
  | [] => []
  | [i] => (bootOne c i).getD []
  | i :: j :: rest => ((bootOne c i).getD []).dropLast ++ bootExpansion c (j :: rest)

end Sys2Proof.Machine
end

