-- ==== Sys2Proof/Machine/State.lean ====
section
/-! DEFINITION. The state of the block (R10), the reasons a step can stop, and the state after reset (R27). -/

namespace Sys2Proof.Machine

/-- Why the machine stops. Neither reason can be met from `State.reset` (obligation
InvariantGivesProgress): both stand for a state the spec says never occurs. Contract violations and transport
errors are no faults: the machine goes on with RESULT written (R161, R163). -/
inductive Fault
  /-- Raised by IDLE_STEP with a blank frame in COUNTING_EMPTY when FIRST_EMPTY_TIME is absent, which R15(c)
  excludes: "the time in FIRST_EMPTY_TIME" (R141) then has no value. Safe. -/
  | firstEmptyTimeAbsent
  /-- Raised by UPDATE when it has to compare with a PREV that is not a W by H frame, which R11 excludes: the
  pixels R129 compares then do not exist. Safe. -/
  | prevNotAFrame
  deriving DecidableEq, Repr

/-- Why there is no meaning. Apart from `notModelled` each is a move the spec says the host does not have. -/
inductive Refusal
  /-- Raised by exec's arm of an operation that has no meaning yet. Safe. -/
  | notModelled (mnemonic : String)
  /-- Raised by every host operation issued while BUSY: "undefined and must be prevented by the caller" (R18,
  R200, U1). No step raises it: the host waits. Safe. -/
  | hostBusy
  /-- Raised by every host operation issued with CH_OPEN = 0: "no defined behaviour in the source" (R193, U6).
  No step raises it: the host waits. Safe. -/
  | channelNotOpen
  /-- Raised by IDLE_STEP when the head of SEQ is not that IDLESTEP: "IDLE_STEP is not offered to the host" (R9).
  No step raises it. Safe. -/
  | noIdleStepDue
  /-- Raised by step for a host command whose selector is 12 to 15: they "select nothing and the host has no
  move with them" (R62, U21). Safe. -/
  | noSuchSelector
  deriving DecidableEq, Repr

/-- The state. `cfg` is the parameters (R6, R7; no step writes them, log entry 1); `prev` to `trace` are the
table of R10; `host`, `inputs` and `draws` carry the moves and samples of the other agents (R24, R174; log
entries 5 and 6). -/
structure State where
  cfg : Config
  /-- PREV (R11). -/
  prev : Option Bitmap
  /-- IDLE (R12). -/
  idle : Idle
  /-- FIRST_EMPTY_TIME (R13). -/
  firstEmptyTime : Option Time
  /-- EMPTY_COUNT (R14). -/
  emptyCount : Nat
  /-- SEQ, head first (R20). -/
  seq : List MicroOp
  /-- RESULT (R17). -/
  result : Result
  /-- TX_PKT (R21). -/
  txPkt : Bytes
  /-- TX_OFF (R21). -/
  txOff : Nat
  /-- TX_PHASE (R21). -/
  txPhase : TxPhase
  /-- OUTBUF, the byte to leave first at the head (R22). -/
  outbuf : Bytes
  /-- WIRE, oldest byte first (R22). -/
  wire : Bytes
  /-- TRACE, oldest event first (R23). -/
  trace : List Event
  /-- The operations the host still wants to issue, oldest first, as commands on its port. -/
  host : List HostCommand
  /-- The inputs of the coming steps, one record a step. -/
  inputs : List Inputs
  /-- The number of free input records used. -/
  draws : Nat
  deriving DecidableEq, Repr

/-- The state after reset of a block with the given parameters (R27, R190, R191): nothing sent, nothing
remembered, and the boot sequence in SEQ. The last three values are the model's (DESIGN CHOICE, log entries 5
and 6): nothing placed on the host port, no listed inputs, no free record used. -/
def State.resetOf (c : Config) : State where
  cfg := c
  prev := none
  idle := .awake
  firstEmptyTime := none
  emptyCount := 0
  seq := bootExpansion c c.bootSeq
  result := .ok
  txPkt := []
  txOff := 0
  txPhase := .idle
  outbuf := []
  wire := []
  trace := []
  host := []
  inputs := []
  draws := 0

/-- The machine right after reset, with the default parameters of R7. -/
def State.reset : State := State.resetOf Config.default

end Sys2Proof.Machine
end

