-- ==== Sys2Proof/Machine/Flags.lean ====
section
/-! DEFINITION. What the block shows the host: BUSY (R18) and the numbers of RESULT (R17), of the causes (R162)
and of IDLE (R12). There are no condition codes (R17). -/

namespace Sys2Proof.Machine

/-- BUSY = (SEQ ≠ []) (R18). -/
def State.busy (s : State) : Bool := !s.seq.isEmpty

/-- The number of a result (R17). -/
def Result.code : Result → Nat
  | .ok => 0
  | .noChange => 1
  | .fullUpdate => 2
  | .bandUpdate _ _ => 3
  | .packed _ => 4
  | .contractViolation _ => 14
  | .transportError => 15

/-- Result field START_Y, present with code 3 (R17). -/
def Result.startField : Result → Option Nat
  | .bandUpdate a _ => some a
  | _ => none

/-- Result field END_Y, present with code 3 (R17). -/
def Result.endField : Result → Option Nat
  | .bandUpdate _ e => some e
  | _ => none

/-- The number of a cause (R162). -/
def Cause.code : Cause → Nat
  | .dimMismatch => 1
  | .heightNotMult8 => 2
  | .bitmapSize => 3
  | .fieldRange => 4
  | .brightnessRange => 5

/-- The 2-bit field of IDLE; the pattern 3 never occurs (R12). -/
def Idle.code : Idle → BitVec 2
  | .awake => 0
  | .countingEmpty => 1
  | .asleep => 2

end Sys2Proof.Machine
end

