-- ==== Sys2Proof/Machine/Ops.lean ====
section
/-! DEFINITION. The operations the meanings share: the inputs of a step, SEQ, issuing, the two errors, the
channel. -/

namespace Sys2Proof.Machine

/-- The outcome of a step or of an operation. -/
abbrev StepResult := Host.Outcome State Fault Refusal

/-! ## The inputs of a step (R24) -/

/-- The inputs of this step: the first listed record, or a free one (log entry 5). -/
def State.inp (s : State) : Inputs :=
  match s.inputs with
  | i :: _ => i
  | [] => Config.freeInputs s.draws

/-- The record of this step is used up. -/
def State.tick (s : State) : State :=
  { s with
    inputs := s.inputs.tail
    draws := if s.inputs.isEmpty then s.draws + 1 else s.draws }

/-- Every step uses up one record. -/
def andTick : StepResult → StepResult
  | .next s => .next s.tick
  | .fault r => .fault r
  | .refused r => .refused r

/-! ## SEQ (R20) -/

/-- `SEQ <- l`. -/
def State.install (s : State) (l : List MicroOp) : State := { s with seq := l }

/-- "remove the head". -/
def State.pop (s : State) : State := { s with seq := s.seq.tail }

/-- "replace the head by l" (R141). -/
def State.replaceHead (s : State) (l : List MicroOp) : State := { s with seq := l ++ s.seq.tail }

/-! ## The two errors: each is ONE shared operation, and there is no return from either (R168, R169) -/

/-- `raise ContractViolation(cause)` (R161): RESULT and nothing else; SEQ stays `[]`, since it happens only at
issue. -/
def State.raiseContractViolation (s : State) (k : Cause) : State :=
  { s with result := .contractViolation k }

/-- `raise TransportError` (R163, R164): RESULT, SEQ and the TX registers, in one step; `atRisk` is B ++ C, of
which the drawn part q leaves. The event is R78's. -/
def State.raiseTransportError (s : State) (site : ErrorSite) (atRisk : Bytes) : State :=
  { s with
    result := .transportError
    seq := []
    txPkt := []
    txOff := 0
    txPhase := .idle
    outbuf := []
    wire := s.wire ++ atRisk.take s.inp.errSent
    trace := s.trace ++ [.error site] }

/-! ## Issuing an operation (R18, R20, R161, R193) -/

/-- The host has an issue move: BUSY is false and CH_OPEN is 1. -/
def State.canIssue (s : State) : Bool := !s.busy && s.inp.chOpen

/-- Issue of an operation with the given expansion: no such move while BUSY or with the channel closed; a
contract violation, or the expansion installed. -/
def issue (s : State) (e : Expansion) : StepResult :=
  if s.busy then .refused .hostBusy
  else if s.inp.chOpen then
    match e with
    | .error k => .next (s.raiseContractViolation k)
    | .ok l => .next (s.install l)
  else .refused .channelNotOpen

/-! ## The channel's own move (R44) -/

/-- The inputs of this step are a `drain(k)` with 0 < k ≤ len(OUTBUF). -/
def State.drainDue (s : State) : Bool :=
  !s.outbuf.isEmpty && decide (0 < s.inp.drain) && decide (s.inp.drain ≤ s.outbuf.length)

/-- `drain(k)`. -/
def State.drained (s : State) (k : Nat) : State :=
  { s with
    wire := s.wire ++ s.outbuf.take k
    outbuf := s.outbuf.drop k }

end Sys2Proof.Machine
end

