-- ==== Sys2Proof/Machine/BitPacker.lean ====
section
/-! DEFINITION. The Bit-Packer as a host operation: PACK (R86). The packing itself is in Operands. -/

namespace Sys2Proof.Machine

/-- PACK(bitmap, w, h) (R86). -/
def execPack (b : Bitmap) (w h : Int) (s : State) : StepResult := issue s (expandPack b w h)

end Sys2Proof.Machine
end

