-- ==== Sys2Proof/Machine/FrameDiff.lean ====
section
/-! DEFINITION. The Frame Diff Engine: UPDATE (R121), DISCARD_PREV (R130) and SETPREV (R128). -/

namespace Sys2Proof.Machine

/-- The UPDATE would compare with a PREV that is no frame (R11 says it never holds one; log entry 12). -/
def State.prevUnreadable (s : State) (f : Bitmap) : Bool :=
  s.canIssue && isFrame s.cfg f && !s.prev.all (isFrame s.cfg)

/-- UPDATE(F) (R121). -/
def execUpdate (f : Bitmap) (s : State) : StepResult :=
  if s.prevUnreadable f then .fault .prevNotAFrame
  else issue s (expandUpdate s.cfg s.prev f)

/-- DISCARD_PREV (R130): `PREV <- absent; SEQ <- [DONE(OK)]`. -/
def execDiscardPrev (s : State) : StepResult := issue { s with prev := none } expandDiscardPrev

/-- SETPREV(F) (R128). -/
def performSetPrev (f : Bitmap) (s : State) : State := { s.pop with prev := some f }

end Sys2Proof.Machine
end

