-- ==== Sys2Proof/Machine/IdleFsm.lean ====
section
/-! DEFINITION. The Idle / Screensaver State Machine: IDLE_STEP (R141 to R146) and IDLECOMMIT (R147, R148). -/

namespace Sys2Proof.Machine

/-- The first blank frame of a run (R143). -/
def State.startCounting (s : State) : State :=
  { s with firstEmptyTime := some s.inp.now, emptyCount := 1, idle := .countingEmpty }

/-- A further blank frame counted (R144). -/
def State.countFrame (s : State) : State := { s with emptyCount := bumpCount s.cfg s.emptyCount }

/-- The idle registers of AWAKE (R145, R148). -/
def State.toAwake (s : State) : State :=
  { s with emptyCount := 0, firstEmptyTime := none, idle := .awake }

/-- What performing IDLESTEP(b) does when it is the head of SEQ (R141). -/
def idleStepEffect (b : Bool) (s : State) : StepResult :=
  match s.idle, b with
  | .awake, false => .next s.pop
  | .awake, true => .next s.startCounting.pop
  | .countingEmpty, true =>
    match s.firstEmptyTime with
    | none => .fault .firstEmptyTimeAbsent
    | some t0 =>
      if delayReached s.cfg (s.inp.now - t0) then
        .next (s.countFrame.replaceHead [.tx s.cfg.opcSleep, .idleCommit .asleep])
      else .next s.countFrame.pop
  | .countingEmpty, false => .next s.toAwake.pop
  | .asleep, true => .next s.pop
  | .asleep, false => .next (s.replaceHead [.tx s.cfg.opcWake, .idleCommit .awake])

/-- IDLE_STEP: the micro-operation IDLESTEP(b) at the head of SEQ. It "runs only as part of UPDATE" (R9), so
anywhere else there is no such move (log entry 15). -/
def execIdleStep (b : Bool) (s : State) : StepResult :=
  if s.seq.head? = some (.idleStep b) then idleStepEffect b s else .refused .noIdleStepDue

/-- IDLECOMMIT(s) (R147, R148). -/
def performIdleCommit (e : IdleEdge) (s : State) : State :=
  match e with
  | .asleep => { s.pop with idle := .asleep }
  | .awake => s.toAwake.pop

end Sys2Proof.Machine
end

