-- ==== Sys2Proof/Machine/ProtocolEncoder.lean ====
section
/-! DEFINITION. The Protocol Encoder: the eight operations that send one packet each (R95 to R103). -/

namespace Sys2Proof.Machine

/-- RESET (R96). -/
def execReset (s : State) : StepResult := issue s (expandReset s.cfg)

/-- CLEAR (R97). -/
def execClear (s : State) : StepResult := issue s (expandClear s.cfg)

/-- MOVE_CURSOR(x, y) (R98). -/
def execMoveCursor (x y : Int) (s : State) : StepResult := issue s (expandMoveCursor s.cfg x y)

/-- SET_BRIGHTNESS(level) (R99). -/
def execSetBrightness (levelNum : Int) (s : State) : StepResult :=
  issue s (expandSetBrightness s.cfg levelNum)

/-- SHOW_IMAGE(bitmap, width, height) (R100). -/
def execShowImage (b : Bitmap) (width height : Int) (s : State) : StepResult :=
  issue s (expandShowImage s.cfg b width height)

/-- SCROLL(x, y, times, speed) (R101). -/
def execScroll (x y times speed : Int) (s : State) : StepResult :=
  issue s (expandScroll s.cfg x y times speed)

/-- SLEEP (R102). -/
def execSleep (s : State) : StepResult := issue s (expandSleep s.cfg)

/-- WAKE (R103). -/
def execWake (s : State) : StepResult := issue s (expandWake s.cfg)

end Sys2Proof.Machine
end

