-- ==== Sys2Proof/Machine/Transport.lean ====
section
/-! DEFINITION. The Transport Channel: WRITE (R71) and the steps of TX (R72 to R78). -/

namespace Sys2Proof.Machine

/-- WRITE(packet) (R71). -/
def execWrite (packet : Bytes) (s : State) : StepResult := issue s (expandWrite packet)

/-- T_IDLE (R72): an empty packet ends at once, another is loaded. -/
def txBegin (pkt : Bytes) (s : State) : State :=
  if pkt.isEmpty then s.pop
  else { s with txPkt := pkt, txOff := 0, txPhase := .pollPre }

/-- A poll (R73, R75): READY is sampled once and recorded; only a 1 moves on to `after`. -/
def txPoll (after : TxPhase) (s : State) : State :=
  { s with
    trace := s.trace ++ [.poll s.inp.ready]
    txPhase := if s.inp.ready then after else s.txPhase }

/-- The chunk at TX_OFF (R74). -/
def State.chunkNow (s : State) : Bytes := chunkAt s.cfg.chunk s.txPkt s.txOff

/-- T_WRITE (R74, R78). -/
def txWrite (s : State) : State :=
  if s.inp.chErr then s.raiseTransportError .write (s.outbuf ++ s.chunkNow)
  else
    { s with
      outbuf := s.outbuf ++ s.chunkNow
      trace := s.trace ++ [.write s.chunkNow]
      txPhase := .pollPost }

/-- `min(TX_OFF + N, len(TX_PKT))` (R76). -/
def State.nextOff (s : State) : Nat := min (s.txOff + s.cfg.chunk) s.txPkt.length

/-- The writes of a flush (R76). -/
def State.flushed (s : State) : State :=
  { s with
    wire := s.wire ++ s.outbuf
    outbuf := []
    trace := s.trace ++ [.flush]
    txOff := s.nextOff }

/-- The end of a chunk: the next chunk, or the end of the packet (R77). -/
def State.endChunk (s : State) : State :=
  if s.txOff < s.txPkt.length then { s with txPhase := .pollPre }
  else { s with txPkt := [], txOff := 0, txPhase := .idle, seq := s.seq.tail }

/-- T_FLUSH (R76, R77, R78). -/
def txFlush (s : State) : State :=
  if s.inp.chErr then s.raiseTransportError .flush s.outbuf
  else s.flushed.endChunk

/-- One step of TX(pkt) at the head of SEQ: what the rule of the current phase says. -/
def performTx (pkt : Bytes) (s : State) : State :=
  match s.txPhase with
  | .idle => txBegin pkt s
  | .pollPre => txPoll .write s
  | .write => txWrite s
  | .pollPost => txPoll .flush s
  | .flush => txFlush s

/-- DONE(r): `RESULT <- r; SEQ <- []` (R20). -/
def performDone (r : Result) (s : State) : State := { s with result := r, seq := [] }

end Sys2Proof.Machine
end

