-- ==== Sys2Proof/Machine/Dispatch.lean ====
section
/-! DEFINITION. The meaning of every operation, one arm per constructor. -/

namespace Sys2Proof.Machine

def exec (i : Instr) (s : State) : Host.Outcome State Fault Refusal :=
  match i with
  | .reset => Sys2Proof.Machine.execReset s
  | .clear => Sys2Proof.Machine.execClear s
  | .moveCursor x y => Sys2Proof.Machine.execMoveCursor x y s
  | .setBrightness l => Sys2Proof.Machine.execSetBrightness l s
  | .showImage b w h => Sys2Proof.Machine.execShowImage b w h s
  | .scroll x y t sp => Sys2Proof.Machine.execScroll x y t sp s
  | .sleep => Sys2Proof.Machine.execSleep s
  | .wake => Sys2Proof.Machine.execWake s
  | .pack b w h => Sys2Proof.Machine.execPack b w h s
  | .write p => Sys2Proof.Machine.execWrite p s
  | .update f => Sys2Proof.Machine.execUpdate f s
  | .discardPrev => Sys2Proof.Machine.execDiscardPrev s
  | .idleStep b => Sys2Proof.Machine.execIdleStep b s

end Sys2Proof.Machine
end

