-- ==== Sys2Proof/Machine/Turn.lean ====
section
/-! DEFINITION. Whose move the next step is, and what that move does (R20, R174). -/

namespace Sys2Proof.Machine

/-- The block performs the head of SEQ (R20). IDLESTEP is the operation IDLE_STEP. -/
def perform (m : MicroOp) (s : State) : StepResult :=
  match m with
  | .tx pkt => .next (performTx pkt s)
  | .setPrev f => .next (performSetPrev f s)
  | .idleStep b => exec (.idleStep b) s
  | .idleCommit e => .next (performIdleCommit e s)
  | .done r => .next (performDone r s)

/-- SEQ is empty: the host issues the next operation it wants, if the channel is open; otherwise the host has
no move and nothing happens (R18, R20, R193). -/
def hostTurn (s : State) : StepResult :=
  match s.host with
  | [] => .next s
  | cmd :: rest =>
    if s.inp.chOpen then
      match decodeCommand cmd with
      | .error _ => .refused .noSuchSelector
      | .ok i => exec i { s with host := rest }
    else .next s

/-- One move: the channel's where the inputs of this step are a drain, else the block's where it is busy, else
the host's (log entry 6). -/
def turn (s : State) : StepResult :=
  if s.drainDue then .next (s.drained s.inp.drain)
  else
    match s.seq with
    | m :: _ => perform m s
    | [] => hostTurn s

/-- The command that issues the operation of a table word; selector 12, which selects nothing, where the word
is no packet (log entry 16). -/
def commandOfWord (nbits w : Nat) : HostCommand :=
  match decodeTableWord nbits w with
  | some i => (encodeCommand i).getD (bareCommand 12)
  | none => bareCommand 12

/-- Inputs at which the host can issue and the channel does not drain. -/
def State.issueInputs (s : State) : Inputs := { s.inp with chOpen := true, drain := 0 }

/-- The operation of a table word stands first on the host port, the block is not busy, and the inputs of the
next step let the host issue (log entry 16). -/
def State.placeWord (s : State) (nbits w : Nat) : State :=
  { s with
    seq := []
    txPkt := []
    txOff := 0
    txPhase := .idle
    host := commandOfWord nbits w :: s.host
    inputs := s.issueInputs :: s.inputs.tail }

end Sys2Proof.Machine
end

