-- ==== Sys2Proof/Machine/Step.lean ====
section
/-! DEFINITION. The step of the machine. -/

namespace Sys2Proof.Machine

/-- One step: one move of one agent (R20, R174), which uses up one record of inputs. -/
def step (s : State) : Host.Outcome State Fault Refusal := andTick (turn s)

/-- The state in which the very next step issues the operation of a table word. -/
def State.withFetchWord (s : State) (nbits w : Nat) : State := s.placeWord nbits w

end Sys2Proof.Machine
end

