-- ==== Sys2Proof/Safety.lean ====
section
/-! DEFINITION. What counts as a good state and a good run: the invariant of the block, and the words the claims
are stated in. -/

namespace Sys2Proof.Machine

/-! ## The parts of the invariant -/

/-- PREV is absent or a W by H frame (R11). -/
abbrev PrevOk (s : State) : Prop := ∀ p ∈ s.prev, isFrame s.cfg p = true

/-- R15(a) and (c), and EMPTY_COUNT ≤ CNT_MAX (R14). -/
abbrev IdleRegsOk (s : State) : Prop :=
  (s.idle = .awake → s.emptyCount = 0) ∧
  (s.firstEmptyTime = none ↔ s.idle = .awake) ∧
  (s.idle ≠ .awake → 1 ≤ s.emptyCount) ∧
  (∀ m ∈ s.cfg.cntMax, s.emptyCount ≤ m)

/-- A DONE. -/
def MicroOp.isDone : MicroOp → Bool
  | .done _ => true
  | _ => false

/-- An IDLECOMMIT. -/
def MicroOp.isCommit : MicroOp → Bool
  | .idleCommit _ => true
  | _ => false

/-- "`DONE(r)` is always the last element of the list" (R20), and it is there. -/
def doneLast : List MicroOp → Bool
  | [] => true
  | [m] => m.isDone
  | m :: n :: rest => !m.isDone && doneLast (n :: rest)

/-- The idle state an edge starts from (R147, R148, R150). -/
def IdleEdge.source : IdleEdge → Idle
  | .asleep => .countingEmpty
  | .awake => .asleep

/-- No IDLECOMMIT. -/
def noCommit (l : List MicroOp) : Bool := l.all (fun m => !m.isCommit)

/-- An IDLECOMMIT stands only at the head of SEQ, or right after the TX of its packet at the head, and IDLE is
then still the state its edge starts from (R141, R147, R148). -/
def commitsOk (idle : Idle) : List MicroOp → Bool
  | .idleCommit e :: rest => decide (idle = e.source) && noCommit rest
  | .tx _ :: .idleCommit e :: rest => decide (idle = e.source) && noCommit rest
  | l => noCommit l

/-- The frames a SETPREV will store are W by H frames (R121, R128). -/
abbrev StoredFramesOk (s : State) : Prop := ∀ f, MicroOp.setPrev f ∈ s.seq → isFrame s.cfg f = true

/-- TX_PKT, TX_OFF, TX_PHASE and OUTBUF agree with the head of SEQ (R21, R42): empty and T_IDLE unless it is
a TX; inside its packet, with OUTBUF what is left of the current chunk, while it is. -/
def txRegsOk (s : State) : Prop :=
  match s.seq.head?, s.txPhase with
  | _, .idle => s.txPkt = [] ∧ s.txOff = 0 ∧ s.outbuf = []
  | some (.tx pkt), .pollPre => s.txPkt = pkt ∧ s.txOff < pkt.length ∧ s.outbuf = []
  | some (.tx pkt), .write => s.txPkt = pkt ∧ s.txOff < pkt.length ∧ s.outbuf = []
  | some (.tx pkt), .pollPost => s.txPkt = pkt ∧ s.txOff < pkt.length ∧ s.outbuf <:+ s.chunkNow
  | some (.tx pkt), .flush => s.txPkt = pkt ∧ s.txOff < pkt.length ∧ s.outbuf <:+ s.chunkNow
  | _, _ => False

/-- The host keeps to its moves: every command it wants to issue selects an operation (R62). -/
abbrev HostOk (s : State) : Prop := ∀ cmd ∈ s.host, cmd.selects = true

/-- The invariant of the block. -/
structure BlockInv (s : State) : Prop where
  legal : s.cfg.Legal
  prevOk : PrevOk s
  idleRegs : IdleRegsOk s
  done : doneLast s.seq = true
  commits : commitsOk s.idle s.seq = true
  frames : StoredFramesOk s
  txRegs : txRegsOk s
  hostOk : HostOk s

/-! ## Runs -/

/-- A block right after reset, with the operations its host will issue and the inputs it will meet. -/
def started (c : Config) (host : List HostCommand) (inputs : List Inputs) : State :=
  { State.resetOf c with host := host, inputs := inputs }

/-- At this state the block performs IDLESTEP(true) in COUNTING_EMPTY with the delay reached (R144). -/
def sleepDecided (s : State) : Prop :=
  s.drainDue = false ∧ s.seq.head? = some (.idleStep true) ∧ s.idle = .countingEmpty ∧
  ∃ t0, s.firstEmptyTime = some t0 ∧ delayReached s.cfg (s.inp.now - t0) = true

/-- Inputs at which the link never stalls: ready, no channel error, no drain. -/
def smooth (i : Inputs) : Bool := i.ready && !i.chErr && decide (i.drain = 0)

/-- An event other than a poll that found the link not ready. -/
def notStall (e : Event) : Bool := decide (e ≠ .poll false)

/-- The events of one chunk on a link that never stalls (R82). -/
def chunkEvents (chunk : Bytes) : List Event := [.poll true, .write chunk, .poll true, .flush]

/-! ## How far a TX has come -/

/-- The number of bytes of the packet that are in WIRE or OUTBUF (R40, R42). -/
def State.sentCount (s : State) : Nat :=
  match s.txPhase with
  | .pollPost => s.nextOff
  | .flush => s.nextOff
  | _ => s.txOff

/-- The events of the current chunk that have happened, stalls apart (R82). -/
def State.chunkEventsNow (s : State) : List Event :=
  match s.txPhase with
  | .write => [.poll true]
  | .pollPost => [.poll true, .write s.chunkNow]
  | .flush => [.poll true, .write s.chunkNow, .poll true]
  | _ => []

/-- A TX(pkt) at the head of SEQ, in order, with the bytes it has sent and the events it has caused since WIRE was
wire0 and TRACE was trace0 (R40, R42, R82). -/
structure TxProgress (wire0 : Bytes) (trace0 : List Event) (pkt : Bytes) (rest : List MicroOp)
    (s : State) : Prop where
  seq : s.seq = .tx pkt :: rest
  regs : txRegsOk s
  whole : s.cfg.chunk ∣ s.txOff
  sent : s.wire ++ s.outbuf = wire0 ++ pkt.take s.sentCount
  events : s.trace.filter notStall = trace0.filter notStall ++
    (chunks s.cfg.chunk (pkt.take s.txOff)).flatMap chunkEvents ++ s.chunkEventsNow

end Sys2Proof.Machine
end

