-- ==== Sys2Proof/Certificates/Slice0/Obligations.lean ====
section
/-! DEFINITION. The statements for the provers: the rules of the spec as claims about the machine. Where a
statement speaks of a step, `State.tick` is the use of one record of inputs (log entry 5), and `drainDue` says
that the step is the channel's own drain (R44) and not the block's (log entry 6). Both are the form the model gives
the environment's draws, not rules of the spec. -/

open Sys2Proof Sys2Proof.Machine

/-! ## Reset -/

/-- R27: the reset value of every state element, for any parameters and for the machine's own reset, whose
parameters `Config.default` are the model's choice where R7 gives none (log entries 2, 3 and 4). -/
def Obligations.ResetGivesEveryElementItsValue : Prop :=
  (∀ c : Config,
    (State.resetOf c).cfg = c ∧ (State.resetOf c).prev = none ∧ (State.resetOf c).idle = .awake ∧
    (State.resetOf c).firstEmptyTime = none ∧ (State.resetOf c).emptyCount = 0 ∧
    (State.resetOf c).seq = bootExpansion c c.bootSeq ∧ (State.resetOf c).result = .ok ∧
    (State.resetOf c).txPkt = [] ∧ (State.resetOf c).txOff = 0 ∧ (State.resetOf c).txPhase = .idle ∧
    (State.resetOf c).outbuf = [] ∧ (State.resetOf c).wire = [] ∧ (State.resetOf c).trace = []) ∧
  State.reset = State.resetOf Config.default

/-- R191: at reset SEQ is the concatenation of the expansions of BOOT_SEQ with every DONE but the last removed: of
the empty list nothing, of one operation its expansion, of a longer list the first expansion without its DONE and
then the rest. The expansion of an operation is what issuing it installs with PREV absent; one without an expansion
violates its contract when issued, and IDLE_STEP has none. With the default BOOT_SEQ one brightness packet is what a
block sends by itself, and BUSY is true. That the list is expanded with PREV absent is the model's reading (log
entry 14); the form of the host's move is the model's (log entries 5 and 6). -/
def Obligations.BootSequenceIsInstalledAtReset : Prop :=
  (∀ c : Config, (State.resetOf c).seq = bootExpansion c c.bootSeq ∧ bootExpansion c [] = []) ∧
  (∀ (c : Config) (i : Instr) (l : List MicroOp), bootOne c i = some l → bootExpansion c [i] = l) ∧
  (∀ (c : Config) (i j : Instr) (rest : List Instr) (l : List MicroOp), bootOne c i = some l →
    bootExpansion c (i :: j :: rest) = l.dropLast ++ bootExpansion c (j :: rest)) ∧
  (∀ (s : State) (i : Instr), s.seq = [] → s.inp.chOpen = true → s.prev = none → (∀ b, i ≠ .idleStep b) →
    (∀ l, bootOne s.cfg i = some l → exec i s = .next { s with seq := l }) ∧
    (bootOne s.cfg i = none → ∃ k, exec i s = .next { s with result := .contractViolation k })) ∧
  (∀ (c : Config) (b : Bool), bootOne c (.idleStep b) = none) ∧
  (∀ c : Config, c.bootSeq = [.setBrightness c.initialBrightness] → c.initialBrightness ≤ c.levelDen →
    (State.resetOf c).seq =
      [.tx (c.opcBrightness ++ [BitVec.ofNat 8 (brightnessLevel c c.initialBrightness)]), .done .ok] ∧
    (State.resetOf c).busy = true) ∧
  Config.default.bootSeq = [.setBrightness Config.default.initialBrightness]

/-- The invariant holds of `State.reset`, the default block right after reset: 140 by 32 pixels, the assumed
opcodes and a free legal brightness, all of them the model's choice (log entries 2, 4 and 3).
`StartedBlocksMeetInvariant` says it of every legal block. -/
def Obligations.ResetMeetsInvariant : Prop := BlockInv State.reset

/-- The invariant holds of every legal block right after reset, whatever its host will issue (in commands that
select an operation) and whatever inputs it will meet. -/
def Obligations.StartedBlocksMeetInvariant : Prop :=
  ∀ (c : Config) (host : List HostCommand) (inputs : List Inputs), c.Legal → bootLegal c →
    (∀ cmd ∈ host, cmd.selects = true) → BlockInv (started c host inputs)

/-! ## Every step -/

/-- Every step keeps the invariant: PREV stays a frame, the idle registers keep R15(a) and (c) and R14's bound,
DONE stays last, an IDLECOMMIT stays behind its packet with IDLE at the start of its edge, and the transport
registers stay in step with SEQ. Part of the invariant is that a finite CNT_MAX is at least 1 (log entry 11). -/
def Obligations.StepKeepsInvariant : Prop := ∀ s t : State, BlockInv s → step s = .next t → BlockInv t

/-- No state of the invariant is stuck: no step from it faults or is refused. The invariant asks that every command
the host will issue selects an operation (R62), the model's form of a host with no other move (log entry 6), and
that a finite CNT_MAX is at least 1 (log entry 11). -/
def Obligations.InvariantGivesProgress : Prop := ∀ s : State, BlockInv s → ∃ t, step s = .next t

/-- Where a step stops at all: a host command that selects nothing, an IDLESTEP that finds no first-empty time in
COUNTING_EMPTY, an UPDATE that finds a PREV that is no frame (log entry 12). That the first stop refuses is the
model's form of a host that has no such move (log entry 6). -/
def Obligations.StepStopsOnlyForTheseReasons : Prop :=
  (∀ (s : State) (r : Refusal), step s = .refused r →
    r = .noSuchSelector ∧ s.seq = [] ∧ ∃ cmd rest, s.host = cmd :: rest ∧ cmd.selects = false) ∧
  (∀ (s : State) (r : Fault), step s = .fault r →
    (r = .firstEmptyTimeAbsent ∧ s.idle = .countingEmpty ∧ s.firstEmptyTime = none) ∨
    (r = .prevNotAFrame ∧ ∃ p, s.prev = some p ∧ isFrame s.cfg p = false))

/-- When a host command decodes to an operation, the block is idle, the channel open and no drain comes first, the
step IS that operation's meaning, with the command taken off the port and one record of inputs used up (log
entries 5, 6 and 7); when
IDLESTEP is the head of SEQ the step is IDLE_STEP's meaning. -/
def Obligations.StepRunsTheDecodedOperation : Prop :=
  (∀ (s : State) (cmd : HostCommand) (rest : List HostCommand) (i : Instr),
    s.drainDue = false → s.seq = [] → s.host = cmd :: rest → s.inp.chOpen = true →
    decodeCommand cmd = .ok i → step s = andTick (exec i { s with host := rest })) ∧
  (∀ (s : State) (b : Bool) (rest : List MicroOp), s.drainDue = false → s.seq = .idleStep b :: rest →
    step s = andTick (exec (.idleStep b) s)) ∧
  (∀ s : State, s.tick = { s with
    inputs := s.inputs.tail, draws := if s.inputs.isEmpty then s.draws + 1 else s.draws })

/-- `withFetchWord` places an operation so that the very next step runs it (log entry 16). -/
def Obligations.PlacedTableWordRunsNext : Prop :=
  ∀ (s : State) (nbits w : Nat) (i : Instr), decodeTableWord nbits w = some i →
    step (s.withFetchWord nbits w) = andTick (exec i
      { s with
        seq := [], txPkt := [], txOff := 0, txPhase := .idle
        inputs := { s.inp with chOpen := true, drain := 0 } :: s.inputs.tail })

/-- R20: "if SEQ = [], do nothing (idle, BUSY false); otherwise perform the head"; a waiting host with the channel
closed has no move either (R193). -/
def Obligations.IdleBlockDoesNothing : Prop :=
  (∀ s : State, s.drainDue = false → s.seq = [] → s.host = [] → step s = .next s.tick) ∧
  (∀ s : State, s.drainDue = false → s.seq = [] → s.inp.chOpen = false → step s = .next s.tick) ∧
  (∀ s : State, s.busy = false ↔ s.seq = []) ∧
  (∀ (s : State) (m : MicroOp) (rest : List MicroOp), s.drainDue = false → s.seq = m :: rest →
    step s = andTick (perform m s))

/-- R20, R128, R147, R148: what DONE, SETPREV and IDLECOMMIT do at the head of SEQ, and that they do nothing
else. -/
def Obligations.DoneSetPrevAndIdleCommitEffects : Prop :=
  (∀ (s : State) (r : Result) (rest : List MicroOp), s.drainDue = false → s.seq = .done r :: rest →
    step s = .next (State.tick { s with result := r, seq := [] })) ∧
  (∀ (s : State) (f : Bitmap) (rest : List MicroOp), s.drainDue = false → s.seq = .setPrev f :: rest →
    step s = .next (State.tick { s with prev := some f, seq := rest })) ∧
  (∀ (s : State) (rest : List MicroOp), s.drainDue = false → s.seq = .idleCommit .asleep :: rest →
    step s = .next (State.tick { s with idle := .asleep, seq := rest })) ∧
  (∀ (s : State) (rest : List MicroOp), s.drainDue = false → s.seq = .idleCommit .awake :: rest →
    step s = .next (State.tick
      { s with emptyCount := 0, firstEmptyTime := none, idle := .awake, seq := rest }))

/-- R62: selectors 12 to 15 select nothing; such a command on the port is refused by name, the model's form of a
host that has no move with them (log entry 6). -/
def Obligations.SelectorsTwelveToFifteenAreRefused : Prop :=
  ∀ (s : State) (cmd : HostCommand) (rest : List HostCommand), 12 ≤ cmd.selector.val →
    decodeCommand cmd = .error .noSuchSelector ∧
    (s.drainDue = false → s.seq = [] → s.host = cmd :: rest → s.inp.chOpen = true →
      step s = .refused .noSuchSelector)

/-- R18, R193: no operation can be issued while BUSY or with the channel closed, and IDLE_STEP can be performed
only where an IDLESTEP is due (R9, log entry 15): the refusals are the model's form of having no such move. -/
def Obligations.NoIssueWhileBusyOrClosed : Prop :=
  (∀ (s : State) (i : Instr), (∀ b, i ≠ .idleStep b) → s.busy = true → exec i s = .refused .hostBusy) ∧
  (∀ (s : State) (i : Instr), (∀ b, i ≠ .idleStep b) → s.busy = false → s.inp.chOpen = false →
    exec i s = .refused .channelNotOpen) ∧
  (∀ (s : State) (b : Bool), s.seq.head? ≠ some (.idleStep b) →
    exec (.idleStep b) s = .refused .noIdleStepDue)

/-! ## Who writes what -/

/-- R11: PREV changes only when a SETPREV is performed or a DISCARD_PREV is issued. -/
def Obligations.PrevChangesOnlyBySetPrevOrDiscard : Prop :=
  ∀ s t : State, step s = .next t → t.prev ≠ s.prev →
    (∃ f rest, s.seq = .setPrev f :: rest ∧ t.prev = some f) ∨
    (s.seq = [] ∧ t.prev = none ∧ ∃ cmd rest, s.host = cmd :: rest ∧ decodeCommand cmd = .ok .discardPrev)

/-- R12: the idle registers change only when the idle machine performs an IDLESTEP or an IDLECOMMIT; in
particular the host's own SLEEP and WAKE leave them. -/
def Obligations.IdleRegistersChangeOnlyByIdleMachine : Prop :=
  ∀ s t : State, step s = .next t →
    (t.idle ≠ s.idle ∨ t.firstEmptyTime ≠ s.firstEmptyTime ∨ t.emptyCount ≠ s.emptyCount) →
    (∃ b rest, s.seq = .idleStep b :: rest) ∨ (∃ e rest, s.seq = .idleCommit e :: rest)

/-- R17, R163: RESULT is written only at the end of an operation: by a DONE, by a transport error (which happens
only at a write or a flush), by a contract violation; BUSY is then false. -/
def Obligations.ResultChangesOnlyAtTheEnd : Prop :=
  ∀ s t : State, step s = .next t → t.result ≠ s.result → t.busy = false ∧
    ((∃ r rest, s.seq = .done r :: rest ∧ t.result = r) ∨
     (∃ pkt rest, s.seq = .tx pkt :: rest ∧ (s.txPhase = .write ∨ s.txPhase = .flush) ∧ s.inp.chErr = true ∧
       t.result = .transportError) ∨
     (s.seq = [] ∧ ∃ k, t.result = .contractViolation k))

/-- R22, R23: WIRE and TRACE are only ever appended to. -/
def Obligations.WireAndTraceOnlyGrow : Prop :=
  ∀ s t : State, step s = .next t → s.wire <+: t.wire ∧ s.trace <+: t.trace

/-- R6: no step writes the parameters. -/
def Obligations.StepKeepsParameters : Prop := ∀ s t : State, step s = .next t → t.cfg = s.cfg

/-- R161: an operation that is refused for its operands changes RESULT and nothing else, and every operation that
is not refused leaves BUSY true with RESULT as it was. -/
def Obligations.ContractViolationChangesOnlyResult : Prop :=
  ∀ (s t : State) (i : Instr), (∀ b, i ≠ .idleStep b) → exec i s = .next t →
    (t.busy = false → ∃ k, t = { s with result := .contractViolation k }) ∧
    (t.busy = true → t.result = s.result ∧ t.idle = s.idle ∧ t.firstEmptyTime = s.firstEmptyTime ∧
      t.emptyCount = s.emptyCount ∧ t.wire = s.wire ∧ t.outbuf = s.outbuf ∧ t.trace = s.trace ∧
      (i ≠ .discardPrev → t.prev = s.prev))

/-! ## The Transport Channel -/

/-- R72: an empty packet ends at once; another is loaded. -/
def Obligations.TxStartLoadsThePacket : Prop :=
  ∀ (s : State) (pkt : Bytes) (rest : List MicroOp), s.drainDue = false → s.seq = .tx pkt :: rest →
    s.txPhase = .idle →
    (pkt = [] → step s = .next (State.tick { s with seq := rest })) ∧
    (pkt ≠ [] → step s = .next (State.tick { s with txPkt := pkt, txOff := 0, txPhase := .pollPre }))

/-- R73, R75: READY is sampled once and recorded; only a 1 ends the wait. -/
def Obligations.PollSamplesReadyOnce : Prop :=
  ∀ (s : State) (pkt : Bytes) (rest : List MicroOp), s.drainDue = false → s.seq = .tx pkt :: rest →
    (s.txPhase = .pollPre → s.inp.ready = true →
      step s = .next (State.tick { s with trace := s.trace ++ [.poll true], txPhase := .write })) ∧
    (s.txPhase = .pollPost → s.inp.ready = true →
      step s = .next (State.tick { s with trace := s.trace ++ [.poll true], txPhase := .flush })) ∧
    (s.txPhase = .pollPre ∨ s.txPhase = .pollPost → s.inp.ready = false →
      step s = .next (State.tick { s with trace := s.trace ++ [.poll false] }))

/-- R74: the chunk at TX_OFF goes to OUTBUF; TX_OFF stays. -/
def Obligations.WriteStepAppendsTheChunk : Prop :=
  ∀ (s : State) (pkt : Bytes) (rest : List MicroOp), s.drainDue = false → s.seq = .tx pkt :: rest →
    s.txPhase = .write → s.inp.chErr = false →
    step s = .next (State.tick
      { s with
        outbuf := s.outbuf ++ (s.txPkt.drop s.txOff).take s.cfg.chunk
        trace := s.trace ++ [.write ((s.txPkt.drop s.txOff).take s.cfg.chunk)]
        txPhase := .pollPost })

/-- R76, R77: a flush empties OUTBUF into WIRE; then the next chunk, or the end of the packet. -/
def Obligations.FlushStepSendsAndAdvances : Prop :=
  ∀ (s : State) (pkt : Bytes) (rest : List MicroOp), s.drainDue = false → s.seq = .tx pkt :: rest →
    s.txPhase = .flush → s.inp.chErr = false →
    (s.txOff + s.cfg.chunk < s.txPkt.length →
      step s = .next (State.tick
        { s with
          wire := s.wire ++ s.outbuf, outbuf := [], trace := s.trace ++ [.flush]
          txOff := s.txOff + s.cfg.chunk, txPhase := .pollPre })) ∧
    (s.txPkt.length ≤ s.txOff + s.cfg.chunk →
      step s = .next (State.tick
        { s with
          wire := s.wire ++ s.outbuf, outbuf := [], trace := s.trace ++ [.flush]
          txPkt := [], txOff := 0, txPhase := .idle, seq := rest }))

/-- R78, R163, R164: a channel error at a write or a flush ends the operation in one step; WIRE gains the first
`errSent` bytes of what was at risk, and every number is a possible `errSent`. -/
def Obligations.TransportErrorEndsTheOperation : Prop :=
  ∀ (s : State) (pkt : Bytes) (rest : List MicroOp), s.drainDue = false → s.seq = .tx pkt :: rest →
    s.inp.chErr = true →
    (s.txPhase = .write → step s = .next (State.tick
      { s with
        result := .transportError, seq := [], txPkt := [], txOff := 0, txPhase := .idle, outbuf := []
        wire := s.wire ++ (s.outbuf ++ (s.txPkt.drop s.txOff).take s.cfg.chunk).take s.inp.errSent
        trace := s.trace ++ [.error .write] })) ∧
    (s.txPhase = .flush → step s = .next (State.tick
      { s with
        result := .transportError, seq := [], txPkt := [], txOff := 0, txPhase := .idle, outbuf := []
        wire := s.wire ++ s.outbuf.take s.inp.errSent
        trace := s.trace ++ [.error .flush] }))

/-- R44: the channel may move any front part of OUTBUF to WIRE; the order and content of the stream stay. -/
def Obligations.DrainMovesTheFrontOfOutbuf : Prop :=
  ∀ s : State, 0 < s.inp.drain → s.inp.drain ≤ s.outbuf.length →
    step s = .next (State.tick
      { s with wire := s.wire ++ s.outbuf.take s.inp.drain, outbuf := s.outbuf.drop s.inp.drain }) ∧
    (s.wire ++ s.outbuf.take s.inp.drain) ++ s.outbuf.drop s.inp.drain = s.wire ++ s.outbuf

/-- R71: WRITE installs its packet unchanged. -/
def Obligations.WriteInstallsThePacket : Prop :=
  ∀ (s : State) (packet : Bytes), s.seq = [] → s.inp.chOpen = true →
    exec (.write packet) s = .next { s with seq := [.tx packet, .done .ok] }

/-- R71, R60: the chunks of a packet, put together, are the packet; there are ceil(len/N) of them, all of N bytes
but the last, which has between 1 and N. -/
def Obligations.ChunksArePacketCutEveryN : Prop :=
  ∀ (n : Nat) (pkt : Bytes), 1 ≤ n →
    (chunks n pkt).flatten = pkt ∧
    (chunks n pkt).length = (pkt.length + n - 1) / n ∧
    (∀ j ch, (chunks n pkt)[j]? = some ch → 1 ≤ ch.length ∧ ch.length ≤ n ∧
      (j + 1 < (chunks n pkt).length → ch.length = n))

/-- R40, R42, R77, R82, R164: whatever the link does, a TX at the head of SEQ stays in order (the bytes in WIRE and
OUTBUF are exactly the front part of the packet it has written, the events since it began are, stalls apart, the
four of each chunk in order), until it ends: with the whole packet in WIRE, OUTBUF empty and every chunk written,
polled and flushed; or by a transport error, with a front part of the packet in WIRE. -/
def Obligations.TxSendsItsPacketInOrder : Prop :=
  ∀ (wire0 : Bytes) (trace0 : List Event) (pkt : Bytes) (rest : List MicroOp) (s t : State),
    1 ≤ s.cfg.chunk → TxProgress wire0 trace0 pkt rest s → step s = .next t →
    TxProgress wire0 trace0 pkt rest t ∨
    (t.seq = rest ∧ t.wire = wire0 ++ pkt ∧ t.outbuf = [] ∧ t.txPkt = [] ∧ t.txOff = 0 ∧
      t.txPhase = .idle ∧ t.result = s.result ∧
      t.trace.filter notStall =
        trace0.filter notStall ++ (chunks s.cfg.chunk pkt).flatMap chunkEvents) ∨
    (t.seq = [] ∧ t.result = .transportError ∧ t.outbuf = [] ∧ t.txPkt = [] ∧ t.txOff = 0 ∧
      t.txPhase = .idle ∧ ∃ q, q <+: pkt ∧ t.wire = wire0 ++ q)

/-- R82: on a link that is always ready and never fails, a packet of L > 0 bytes takes 1 + 4·ceil(L/N) steps; its
bytes are then in WIRE, and TRACE has gained the four events of each chunk. -/
def Obligations.UnstalledPacketTakesFourStepsAChunk : Prop :=
  ∀ (s : State) (pkt : Bytes) (rest : List MicroOp), 1 ≤ s.cfg.chunk → pkt ≠ [] →
    s.seq = .tx pkt :: rest → txRegsOk s → s.txPhase = .idle →
    1 + 4 * ((pkt.length + s.cfg.chunk - 1) / s.cfg.chunk) ≤ s.inputs.length → s.inputs.all smooth = true →
    Sys2Proof.core.run (1 + 4 * ((pkt.length + s.cfg.chunk - 1) / s.cfg.chunk)) s = .next
      { s with
        seq := rest
        wire := s.wire ++ pkt
        trace := s.trace ++ (chunks s.cfg.chunk pkt).flatMap chunkEvents
        inputs := s.inputs.drop (1 + 4 * ((pkt.length + s.cfg.chunk - 1) / s.cfg.chunk)) }

/-- R79: while READY stays 0 a waiting block goes on waiting, for any number of steps: no timeout, no error, BUSY
true, RESULT not written, whatever the channel drains meanwhile. -/
def Obligations.LinkNeverReadyWaitsForEver : Prop :=
  ∀ (n : Nat) (s : State) (pkt : Bytes) (rest : List MicroOp), s.seq = .tx pkt :: rest →
    (s.txPhase = .pollPre ∨ s.txPhase = .pollPost) →
    (∀ k u, k < n → Sys2Proof.core.run k s = .next u → (State.inp u).ready = false) →
    ∃ t : State, Sys2Proof.core.run n s = .next t ∧ t.seq = s.seq ∧ t.txPhase = s.txPhase ∧
      t.result = s.result ∧ t.busy = true ∧ t.prev = s.prev ∧ t.idle = s.idle ∧
      t.wire ++ t.outbuf = s.wire ++ s.outbuf

/-! ## The Bit-Packer -/

/-- R86: PACK as a host operation: the two checks in order, then the packed bytes as the result; nothing else
changes. -/
def Obligations.PackReturnsPackedBytes : Prop :=
  ∀ (s : State) (b : Bitmap) (w h : Int), s.seq = [] → s.inp.chOpen = true →
    exec (.pack b w h) s = .next (
      if h % 8 ≠ 0 then { s with result := .contractViolation .heightNotMult8 }
      else if (b.w : Int) ≠ w ∨ (b.h : Int) ≠ h ∨ b.pix.length ≠ b.w * b.h then
        { s with result := .contractViolation .bitmapSize }
      else { s with seq := [.done (.packed (packBytes b w.toNat h.toNat))] })

/-- R86, R87, R88: the packing has exactly w·h/8 bytes, and bit y mod 8 of byte x·(h/8) + y/8 is 1 iff pixel (x, y)
is not zero. -/
def Obligations.PackedBitsAreTheSetPixels : Prop :=
  ∀ (b : Bitmap) (w h : Nat), h % 8 = 0 → b.w = w → b.h = h → b.pix.length = w * h →
    (packBytes b w h).length = w * h / 8 ∧
    ∀ x y, x < w → y < h →
      (((packBytes b w h).getD (x * (h / 8) + y / 8) 0).getLsbD (y % 8) = true ↔
        b.pix.getD (y * w + x) 0 ≠ 0)

/-- R88: "two bitmaps have the same packing iff they have the same set pixels". -/
def Obligations.SamePackingIffSameSetPixels : Prop :=
  ∀ (a b : Bitmap) (w h : Nat), h % 8 = 0 → sized a w h = true → sized b w h = true →
    (packBytes a w h = packBytes b w h ↔
      ∀ x y, x < w → y < h → isSet (pixel a x y) = isSet (pixel b x y))

/-- R90: every pixel unset gives 00 bytes, every pixel set FF bytes, a height or width of 0 the empty string. -/
def Obligations.PackOfBlankAndFullBitmaps : Prop :=
  ∀ (b : Bitmap) (w h : Nat), h % 8 = 0 → sized b w h = true →
    (blank b = true → packBytes b w h = List.replicate (w * h / 8) 0x00) ∧
    (b.pix.all isSet = true → packBytes b w h = List.replicate (w * h / 8) 0xFF) ∧
    (w = 0 ∨ h = 0 → packBytes b w h = [])

/-! ## The Protocol Encoder -/

/-- R96, R97, R102, R103: the four operations without operands install their opcode string as a packet and change
nothing else: neither PREV nor IDLE. -/
def Obligations.FixedPacketOperations : Prop :=
  ∀ s : State, s.seq = [] → s.inp.chOpen = true →
    exec .reset s = .next { s with seq := [.tx s.cfg.opcReset, .done .ok] } ∧
    exec .clear s = .next { s with seq := [.tx s.cfg.opcClear, .done .ok] } ∧
    exec .sleep s = .next { s with seq := [.tx s.cfg.opcSleep, .done .ok] } ∧
    exec .wake s = .next { s with seq := [.tx s.cfg.opcWake, .done .ok] }

/-- R98: MOVE_CURSOR: the range checks, then opcode, x and the page y/8, low byte first. -/
def Obligations.MoveCursorSendsColumnAndPage : Prop :=
  ∀ (s : State) (x y : Int), s.seq = [] → s.inp.chOpen = true →
    exec (.moveCursor x y) s = .next (
      if 0 ≤ x ∧ x ≤ 65535 ∧ 0 ≤ y ∧ y / 8 ≤ 65535 then
        { s with seq :=
          [.tx (s.cfg.opcCursor ++ [BitVec.ofInt 8 (x % 256), BitVec.ofInt 8 (x / 256),
            BitVec.ofInt 8 (y / 8 % 256), BitVec.ofInt 8 (y / 8 / 256)]), .done .ok] }
      else { s with result := .contractViolation .fieldRange })

/-- R99: SET_BRIGHTNESS: a level outside [0, 1] is a violation; else the byte clamp(round(level·8), 1, 8). -/
def Obligations.SetBrightnessSendsClampedEighths : Prop :=
  ∀ (s : State) (l : Int), s.seq = [] → s.inp.chOpen = true →
    exec (.setBrightness l) s = .next (
      if 0 ≤ l ∧ l ≤ s.cfg.levelDen then
        { s with seq := [.tx (s.cfg.opcBrightness ++
          [BitVec.ofNat 8 (min (max (roundQ s.cfg.roundTies (8 * l.toNat) s.cfg.levelDen) 1) 8)]),
          .done .ok] }
      else { s with result := .contractViolation .brightnessRange })

/-- R54: inside [0, 1] the byte is one of 1..8, the upper clamp never acts, the lower one exactly when the rounded
value is 0, and with HALF_UP the byte is the rule's floor-division formula. -/
def Obligations.BrightnessByteIsOneToEight : Prop :=
  ∀ (c : Config) (k : Nat), 1 ≤ c.levelDen → k ≤ c.levelDen →
    1 ≤ brightnessLevel c k ∧ brightnessLevel c k ≤ 8 ∧
    roundQ c.roundTies (8 * k) c.levelDen ≤ 8 ∧
    (roundQ c.roundTies (8 * k) c.levelDen ≠ 0 →
      brightnessLevel c k = roundQ c.roundTies (8 * k) c.levelDen) ∧
    (c.roundTies = .halfUp →
      brightnessLevel c k = clamp ((16 * k + c.levelDen) / (2 * c.levelDen)) 1 8 ∧
      (roundQ c.roundTies (8 * k) c.levelDen = 0 ↔ 16 * k < c.levelDen)) ∧
    (c.roundTies = .halfEven →
      (roundQ c.roundTies (8 * k) c.levelDen = 0 ↔ 16 * k ≤ c.levelDen))

/-- Section 5.1 of 00_scope: `round` gives a nearest integer, and at exactly one half the upper neighbour
(HALF_UP) or the even one (HALF_EVEN). -/
def Obligations.RoundIsNearestWithTieRule : Prop :=
  ∀ (ties : RoundTies) (num den : Nat), 1 ≤ den →
    2 * num ≤ (2 * roundQ ties num den + 1) * den ∧
    2 * (roundQ ties num den * den) ≤ 2 * num + den ∧
    (2 * (num % den) = den → ties = .halfUp → roundQ ties num den = num / den + 1) ∧
    (2 * (num % den) = den → ties = .halfEven → roundQ ties num den % 2 = 0)

/-- R34, R52: the two bytes of a field hold v mod 256 and v / 256, and give v back. -/
def Obligations.LittleEndianFieldHoldsItsValue : Prop :=
  ∀ v : Nat, v ≤ 65535 →
    (lo8 v).toNat = v % 256 ∧ (hi8 v).toNat = v / 256 ∧ le16 v = [lo8 v, hi8 v] ∧
    ofLe16 (lo8 v) (hi8 v) = v

/-- R100: SHOW_IMAGE: the checks in the order the rule writes them, then opcode, width, pages, mode byte and the
packed pixels as one packet. -/
def Obligations.ShowImageSendsHeaderAndPackedPixels : Prop :=
  ∀ (s : State) (b : Bitmap) (w h : Int), s.seq = [] → s.inp.chOpen = true →
    exec (.showImage b w h) s = .next (
      if h % 8 ≠ 0 then { s with result := .contractViolation .heightNotMult8 }
      else if (b.w : Int) ≠ w ∨ (b.h : Int) ≠ h ∨ b.pix.length ≠ b.w * b.h then
        { s with result := .contractViolation .bitmapSize }
      else if 65535 < w ∨ 65535 < h / 8 then { s with result := .contractViolation .fieldRange }
      else { s with seq :=
        [.tx (s.cfg.opcImage ++ [BitVec.ofNat 8 (b.w % 256), BitVec.ofNat 8 (b.w / 256),
          BitVec.ofNat 8 (b.h / 8 % 256), BitVec.ofNat 8 (b.h / 8 / 256), s.cfg.imgMode] ++
          packBytes b b.w b.h), .done .ok] })

/-- R101: SCROLL: the range checks, then opcode, address x·H/8 + y/8, times and speed. -/
def Obligations.ScrollSendsAddressTimesSpeed : Prop :=
  ∀ (s : State) (x y times speed : Int), s.seq = [] → s.inp.chOpen = true →
    exec (.scroll x y times speed) s = .next (
      if 0 ≤ x ∧ 0 ≤ y ∧ x * s.cfg.dispH / 8 + y / 8 ≤ 65535 ∧ 0 ≤ times ∧ times ≤ 65535 ∧
          0 ≤ speed ∧ speed ≤ 255 then
        { s with seq :=
          [.tx (s.cfg.opcScroll ++
            [BitVec.ofInt 8 ((x * s.cfg.dispH / 8 + y / 8) % 256),
             BitVec.ofInt 8 ((x * s.cfg.dispH / 8 + y / 8) / 256),
             BitVec.ofInt 8 (times % 256), BitVec.ofInt 8 (times / 256), BitVec.ofInt 8 speed]),
           .done .ok] }
      else { s with result := .contractViolation .fieldRange })

/-! ## The Frame Diff Engine -/

/-- R131: a frame that is not W by H: the violation, and nothing else. -/
def Obligations.UpdateOfWrongSizeIsAViolation : Prop :=
  ∀ (s : State) (f : Bitmap), s.seq = [] → s.inp.chOpen = true →
    ¬ (f.w = s.cfg.dispW ∧ f.h = s.cfg.dispH ∧ f.pix.length = s.cfg.dispW * s.cfg.dispH) →
    exec (.update f) s = .next { s with result := .contractViolation .dimMismatch }

/-- R122: with no previous frame the whole frame is sent, blank or not, stored, and FullUpdate returned; the idle
step stands where IDLE_ORDER puts it (R127). -/
def Obligations.FirstUpdateSendsTheWholeFrame : Prop :=
  ∀ (s : State) (f : Bitmap) (cur img : Bytes), s.seq = [] → s.inp.chOpen = true → s.prev = none →
    isFrame s.cfg f = true →
    cur = s.cfg.opcCursor ++ le16 0 ++ le16 0 →
    img = s.cfg.opcImage ++ le16 s.cfg.dispW ++ le16 (s.cfg.dispH / 8) ++ [s.cfg.imgMode] ++
      packBytes f s.cfg.dispW s.cfg.dispH →
    (s.cfg.idleOrder = .afterTransmit → exec (.update f) s = .next { s with seq :=
      [.tx cur, .tx img, .setPrev f, .idleStep (blank f), .done .fullUpdate] }) ∧
    (s.cfg.idleOrder = .beforeTransmit → exec (.update f) s = .next { s with seq :=
      [.idleStep (blank f), .tx cur, .tx img, .setPrev f, .done .fullUpdate] })

/-- R123: a frame that differs from PREV in no pixel: nothing is sent, PREV is kept, NoChange is returned, and the
idle machine is stepped with the frame's blankness. -/
def Obligations.IdenticalFrameSendsNothing : Prop :=
  ∀ (s : State) (f p : Bitmap), s.seq = [] → s.inp.chOpen = true → s.prev = some p →
    isFrame s.cfg f = true → isFrame s.cfg p = true →
    (∀ x y, x < s.cfg.dispW → y < s.cfg.dispH → isSet (pixel f x y) = isSet (pixel p x y)) →
    exec (.update f) s = .next { s with seq := [.idleStep (blank f), .done .noChange] }

/-- R124: with REV_SCAN_LOW = 1 a change in row 0 alone is found by the forward scan and not by the reverse scan:
nothing is sent, PREV is kept, NoChange is returned, the idle machine is stepped. -/
def Obligations.ChangeInRowZeroAloneSendsNothing : Prop :=
  ∀ (s : State) (f p : Bitmap), s.seq = [] → s.inp.chOpen = true → s.prev = some p →
    isFrame s.cfg f = true → isFrame s.cfg p = true → s.cfg.revScanLow = 1 →
    (∀ x y, x < s.cfg.dispW → 1 ≤ y → y < s.cfg.dispH → isSet (pixel f x y) = isSet (pixel p x y)) →
    exec (.update f) s = .next { s with seq := [.idleStep (blank f), .done .noChange] }

/-- R125, R126: where the two scans find raw_start and raw_end, the rows [start_y, end_y) of the frame are sent at
the cursor (0, start_y), the whole frame is stored, and BandUpdate(start_y, end_y) returned, also where the band is
empty. -/
def Obligations.ChangedFrameSendsItsBand : Prop :=
  ∀ (s : State) (f p : Bitmap) (rs re a e : Nat) (cur img : Bytes), s.seq = [] → s.inp.chOpen = true →
    s.prev = some p → isFrame s.cfg f = true → isFrame s.cfg p = true → s.cfg.dispH % 8 = 0 →
    rawStart s.cfg f p = some rs → rawEnd s.cfg f p = some re →
    a = roundQ s.cfg.roundTies rs 8 * 8 → e = (re + 7) / 8 * 8 →
    cur = s.cfg.opcCursor ++ le16 0 ++ le16 (a / 8) →
    img = s.cfg.opcImage ++ le16 s.cfg.dispW ++ le16 ((e - a) / 8) ++ [s.cfg.imgMode] ++
      packBytes (rows f a e) s.cfg.dispW (e - a) →
    (s.cfg.idleOrder = .afterTransmit → exec (.update f) s = .next { s with seq :=
      [.tx cur, .tx img, .setPrev f, .idleStep (blank f), .done (.bandUpdate a e)] }) ∧
    (s.cfg.idleOrder = .beforeTransmit → exec (.update f) s = .next { s with seq :=
      [.idleStep (blank f), .tx cur, .tx img, .setPrev f, .done (.bandUpdate a e)] }) ∧
    (∀ x y, x < s.cfg.dispW → y < e - a → pixel (rows f a e) x y = pixel f x (a + y))

/-- R129, R124: raw_start is the first differing row from the top, raw_end the last one not above REV_SCAN_LOW (the
bound is the spec's own reading of the document's asymmetric scans, R124 and D4; R129 names none); a
row differs iff some pixel of it is set in one frame and not in the other. -/
def Obligations.ScansFindFirstAndLastDifferingRow : Prop :=
  ∀ (c : Config) (f p : Bitmap) (y : Nat),
    (rawStart c f p = some y ↔
      y < c.dispH ∧ rowDiffers c f p y = true ∧ ∀ z, z < y → rowDiffers c f p z = false) ∧
    (rawEnd c f p = some y ↔
      y < c.dispH ∧ c.revScanLow ≤ y ∧ rowDiffers c f p y = true ∧
      ∀ z, y < z → z < c.dispH → rowDiffers c f p z = false) ∧
    (rowDiffers c f p y = true ↔ ∃ x, x < c.dispW ∧ isSet (pixel f x y) ≠ isSet (pixel p x y))

/-- R125: both ends of a band are multiples of 8 within [0, H], and start_y ≤ end_y; the clamps never act. -/
def Obligations.BandIsAlignedAndInside : Prop :=
  ∀ (c : Config) (f p : Bitmap) (a e : Nat), c.dispH % 8 = 0 → band c f p = some (a, e) →
    a % 8 = 0 ∧ e % 8 = 0 ∧ a ≤ e ∧ e ≤ c.dispH ∧
    ∃ rs re, rawStart c f p = some rs ∧ rawEnd c f p = some re ∧ rs ≤ re ∧
      a = roundQ c.roundTies rs 8 * 8 ∧ e = ceil8 re

/-- R130: DISCARD_PREV forgets the previous frame, sends nothing and leaves the idle registers. -/
def Obligations.DiscardPrevForgetsTheFrame : Prop :=
  ∀ s : State, s.seq = [] → s.inp.chOpen = true →
    exec .discardPrev s = .next { s with prev := none, seq := [.done .ok] }

/-! ## The idle machine -/

/-- R142, R143: IDLE_STEP in AWAKE. -/
def Obligations.IdleStepInAwake : Prop :=
  ∀ (s : State) (rest : List MicroOp), s.idle = .awake →
    (s.seq = .idleStep false :: rest → exec (.idleStep false) s = .next { s with seq := rest }) ∧
    (s.seq = .idleStep true :: rest → exec (.idleStep true) s = .next
      { s with
        firstEmptyTime := some s.inp.now, emptyCount := 1, idle := .countingEmpty, seq := rest })

/-- R144, R145, R151: IDLE_STEP in COUNTING_EMPTY: a blank frame is counted, and sends sleep iff the delay has
passed since the first one; another frame returns to AWAKE. The delay is the rational delayNum / delayDen (log
entry 9). -/
def Obligations.IdleStepInCountingEmpty : Prop :=
  ∀ (s : State) (rest : List MicroOp) (t0 : Int), s.idle = .countingEmpty → s.firstEmptyTime = some t0 →
    (s.seq = .idleStep true :: rest → ∃ n,
      (s.cfg.cntMax = none → n = s.emptyCount + 1) ∧
      (∀ m, s.cfg.cntMax = some m → n = min (s.emptyCount + 1) m) ∧
      exec (.idleStep true) s = .next (
        if ((s.cfg.delayNum * s.cfg.ticksPerSecond : Nat) : Int) ≤ (s.inp.now - t0) * s.cfg.delayDen then
          { s with emptyCount := n, seq := .tx s.cfg.opcSleep :: .idleCommit .asleep :: rest }
        else { s with emptyCount := n, seq := rest })) ∧
    (s.seq = .idleStep false :: rest → exec (.idleStep false) s = .next
      { s with emptyCount := 0, firstEmptyTime := none, idle := .awake, seq := rest })

/-- R145, R146: IDLE_STEP in ASLEEP: a blank frame writes nothing and sends nothing (that EMPTY_COUNT does not go on
counting is the spec's own reading, R146 and D7); another sends wake, and the idle registers wait for its end. -/
def Obligations.IdleStepInAsleep : Prop :=
  ∀ (s : State) (rest : List MicroOp), s.idle = .asleep →
    (s.seq = .idleStep true :: rest → exec (.idleStep true) s = .next { s with seq := rest }) ∧
    (s.seq = .idleStep false :: rest → exec (.idleStep false) s = .next
      { s with seq := .tx s.cfg.opcWake :: .idleCommit .awake :: rest })

/-- R15(b): not ASLEEP, with no IDLECOMMIT(ASLEEP) in SEQ, is kept by every step but an IDLESTEP in COUNTING_EMPTY
that found the screensaver delay reached; it holds of every block right after reset; so a run from a state in which
it holds reaches ASLEEP only by way of such a step. The delay is the rational delayNum / delayDen (log entry 9). -/
def Obligations.AsleepOnlyAfterTheDelay : Prop :=
  (∀ s t : State, s.idle ≠ .asleep → .idleCommit .asleep ∉ s.seq → step s = .next t →
    sleepDecided s ∨ (t.idle ≠ .asleep ∧ .idleCommit .asleep ∉ t.seq)) ∧
  (∀ (c : Config) (host : List HostCommand) (inputs : List Inputs),
    (started c host inputs).idle ≠ .asleep ∧ MicroOp.idleCommit .asleep ∉ (started c host inputs).seq) ∧
  (∀ (n : Nat) (s t : State), s.idle ≠ .asleep → .idleCommit .asleep ∉ s.seq →
    Sys2Proof.core.run n s = .next t → t.idle = .asleep →
    ∃ k u, k < n ∧ Sys2Proof.core.run k s = .next u ∧ sleepDecided u)

/-! ## Encodings -/

/-- The first words of R57's table, written out from the spec with the assumed default opcodes (log entry 4) and
read most significant byte first (log entry 13), decode to their operations. That page 2 reads as row 16 and address
9 as the position (2, 8) is the reader's choice of a representative, the model's own (log entry 8). -/
def Obligations.TableWordsDecode : Prop :=
  decodeTableWord 16 0x1B40 = some .reset ∧ decodeTableWord 8 0x0C = some .clear ∧
  decodeTableWord 48 0x1F242C010200 = some (.moveCursor 300 16) ∧
  decodeTableWord 40 0x1F28614000 = some .sleep ∧ decodeTableWord 40 0x1F28614001 = some .wake ∧
  decodeTableWord 72 0x1F2861100900030005 = some (.scroll 2 8 3 5)

/-- R57, R58: the assumed default opcode strings (PRESUMED, log entry 4: they are not in the source) have the
document's lengths and none begins another. -/
def Obligations.DefaultOpcodesArePrefixFree : Prop :=
  Config.default.legalOpcodes ∧ Config.default.PrefixFree

/-- R58: for every legal configuration whose opcodes do not begin one another, and every operation that has a
packet: reading the packet off the front of any bytes gives the operation back, but for what the packet does not
carry (the low three bits of a row, the level within its byte, intensities above the threshold, the choice of
position for a scroll address), and leaves the bytes behind it. What the reader answers for those parts is the
model's choice (log entry 8). -/
def Obligations.PacketsDecodeToTheirOperations : Prop :=
  ∀ (c : Config) (i : Instr) (pkt more : Bytes), c.Legal → c.PrefixFree → encode c i = some pkt →
    decode c (pkt ++ more) = .ok (canonical c i, more) ∧ encode c (canonical c i) = some pkt ∧
    canonical c (canonical c i) = canonical c i

/-- R58: WIRE, cut from its start, gives back the operations whose packets it holds, up to what their packets do
not carry (log entry 8). -/
def Obligations.WireIsCutIntoItsPackets : Prop :=
  ∀ (c : Config) (l : List (Instr × Bytes)), c.Legal → c.PrefixFree →
    (∀ x ∈ l, encode c x.1 = some x.2) →
    readWire c l.length (l.flatMap (fun x => x.2)) = .ok (l.map (fun x => canonical c x.1))

/-- R62: the twelve selector numbers: each operation but IDLE_STEP is issued by its number, its command is read as
that operation with every operand, a command read as an operation carries that operation's number, and IDLE_STEP
has no command. The operand layout is the model's choice (log entry 7). -/
def Obligations.CommandPortKeepsEveryOperand : Prop :=
  ((∀ cmd, encodeCommand .reset = some cmd → cmd.selector = 0) ∧
   (∀ cmd, encodeCommand .clear = some cmd → cmd.selector = 1) ∧
   (∀ x y cmd, encodeCommand (.moveCursor x y) = some cmd → cmd.selector = 2) ∧
   (∀ l cmd, encodeCommand (.setBrightness l) = some cmd → cmd.selector = 3) ∧
   (∀ b w h cmd, encodeCommand (.showImage b w h) = some cmd → cmd.selector = 4) ∧
   (∀ x y n sp cmd, encodeCommand (.scroll x y n sp) = some cmd → cmd.selector = 5) ∧
   (∀ cmd, encodeCommand .sleep = some cmd → cmd.selector = 6) ∧
   (∀ cmd, encodeCommand .wake = some cmd → cmd.selector = 7) ∧
   (∀ b w h cmd, encodeCommand (.pack b w h) = some cmd → cmd.selector = 8) ∧
   (∀ p cmd, encodeCommand (.write p) = some cmd → cmd.selector = 9) ∧
   (∀ f cmd, encodeCommand (.update f) = some cmd → cmd.selector = 10) ∧
   (∀ cmd, encodeCommand .discardPrev = some cmd → cmd.selector = 11)) ∧
  (∀ i : Instr, (∀ b, i ≠ .idleStep b) →
    ∃ cmd, encodeCommand i = some cmd ∧ cmd.selector.val ≤ 11 ∧ decodeCommand cmd = .ok i) ∧
  (∀ b : Bool, encodeCommand (.idleStep b) = none) ∧
  (∀ (cmd : HostCommand) (i : Instr), decodeCommand cmd = .ok i →
    ∃ back, encodeCommand i = some back ∧ back.selector = cmd.selector)

/-- R17, R162, R12: the numbers of the results, the causes and the idle states. -/
def Obligations.StatusNumbers : Prop :=
  Result.code .ok = 0 ∧ Result.code .noChange = 1 ∧ Result.code .fullUpdate = 2 ∧
  (∀ a e, Result.code (.bandUpdate a e) = 3 ∧ Result.startField (.bandUpdate a e) = some a ∧
    Result.endField (.bandUpdate a e) = some e) ∧
  (∀ bs, Result.code (.packed bs) = 4) ∧ (∀ k, Result.code (.contractViolation k) = 14) ∧
  Result.code .transportError = 15 ∧
  Cause.code .dimMismatch = 1 ∧ Cause.code .heightNotMult8 = 2 ∧ Cause.code .bitmapSize = 3 ∧
  Cause.code .fieldRange = 4 ∧ Cause.code .brightnessRange = 5 ∧
  Idle.code .awake = 0 ∧ Idle.code .countingEmpty = 1 ∧ Idle.code .asleep = 2 ∧ (∀ i : Idle, i.code ≠ 3)
end

