-- ==== Sys2Proof/Laws/State.lean ====
section
/-! SUPPORT. One lemma for each field under each named update of State, and the inputs of a step under each:
no later proof unfolds a record update. -/

namespace Sys2Proof.Machine

/-! ## tick -/

@[simp] theorem State.tick_cfg (s : State) : s.tick.cfg = s.cfg := rfl
@[simp] theorem State.tick_prev (s : State) : s.tick.prev = s.prev := rfl
@[simp] theorem State.tick_idle (s : State) : s.tick.idle = s.idle := rfl
@[simp] theorem State.tick_firstEmptyTime (s : State) : s.tick.firstEmptyTime = s.firstEmptyTime := rfl
@[simp] theorem State.tick_emptyCount (s : State) : s.tick.emptyCount = s.emptyCount := rfl
@[simp] theorem State.tick_seq (s : State) : s.tick.seq = s.seq := rfl
@[simp] theorem State.tick_result (s : State) : s.tick.result = s.result := rfl
@[simp] theorem State.tick_txPkt (s : State) : s.tick.txPkt = s.txPkt := rfl
@[simp] theorem State.tick_txOff (s : State) : s.tick.txOff = s.txOff := rfl
@[simp] theorem State.tick_txPhase (s : State) : s.tick.txPhase = s.txPhase := rfl
@[simp] theorem State.tick_outbuf (s : State) : s.tick.outbuf = s.outbuf := rfl
@[simp] theorem State.tick_wire (s : State) : s.tick.wire = s.wire := rfl
@[simp] theorem State.tick_trace (s : State) : s.tick.trace = s.trace := rfl
@[simp] theorem State.tick_host (s : State) : s.tick.host = s.host := rfl
@[simp] theorem State.tick_inputs (s : State) : s.tick.inputs = s.inputs.tail := rfl
@[simp] theorem State.tick_draws (s : State) : s.tick.draws = if s.inputs.isEmpty then s.draws + 1 else s.draws := rfl

/-! ## install -/

@[simp] theorem State.install_cfg (s : State) (l : List MicroOp) : (s.install l).cfg = s.cfg := rfl
@[simp] theorem State.install_prev (s : State) (l : List MicroOp) : (s.install l).prev = s.prev := rfl
@[simp] theorem State.install_idle (s : State) (l : List MicroOp) : (s.install l).idle = s.idle := rfl
@[simp] theorem State.install_firstEmptyTime (s : State) (l : List MicroOp) : (s.install l).firstEmptyTime = s.firstEmptyTime := rfl
@[simp] theorem State.install_emptyCount (s : State) (l : List MicroOp) : (s.install l).emptyCount = s.emptyCount := rfl
@[simp] theorem State.install_seq (s : State) (l : List MicroOp) : (s.install l).seq = l := rfl
@[simp] theorem State.install_result (s : State) (l : List MicroOp) : (s.install l).result = s.result := rfl
@[simp] theorem State.install_txPkt (s : State) (l : List MicroOp) : (s.install l).txPkt = s.txPkt := rfl
@[simp] theorem State.install_txOff (s : State) (l : List MicroOp) : (s.install l).txOff = s.txOff := rfl
@[simp] theorem State.install_txPhase (s : State) (l : List MicroOp) : (s.install l).txPhase = s.txPhase := rfl
@[simp] theorem State.install_outbuf (s : State) (l : List MicroOp) : (s.install l).outbuf = s.outbuf := rfl
@[simp] theorem State.install_wire (s : State) (l : List MicroOp) : (s.install l).wire = s.wire := rfl
@[simp] theorem State.install_trace (s : State) (l : List MicroOp) : (s.install l).trace = s.trace := rfl
@[simp] theorem State.install_host (s : State) (l : List MicroOp) : (s.install l).host = s.host := rfl
@[simp] theorem State.install_inputs (s : State) (l : List MicroOp) : (s.install l).inputs = s.inputs := rfl
@[simp] theorem State.install_draws (s : State) (l : List MicroOp) : (s.install l).draws = s.draws := rfl
@[simp] theorem State.install_inp (s : State) (l : List MicroOp) : (s.install l).inp = s.inp := rfl

/-! ## pop -/

@[simp] theorem State.pop_cfg (s : State) : s.pop.cfg = s.cfg := rfl
@[simp] theorem State.pop_prev (s : State) : s.pop.prev = s.prev := rfl
@[simp] theorem State.pop_idle (s : State) : s.pop.idle = s.idle := rfl
@[simp] theorem State.pop_firstEmptyTime (s : State) : s.pop.firstEmptyTime = s.firstEmptyTime := rfl
@[simp] theorem State.pop_emptyCount (s : State) : s.pop.emptyCount = s.emptyCount := rfl
@[simp] theorem State.pop_seq (s : State) : s.pop.seq = s.seq.tail := rfl
@[simp] theorem State.pop_result (s : State) : s.pop.result = s.result := rfl
@[simp] theorem State.pop_txPkt (s : State) : s.pop.txPkt = s.txPkt := rfl
@[simp] theorem State.pop_txOff (s : State) : s.pop.txOff = s.txOff := rfl
@[simp] theorem State.pop_txPhase (s : State) : s.pop.txPhase = s.txPhase := rfl
@[simp] theorem State.pop_outbuf (s : State) : s.pop.outbuf = s.outbuf := rfl
@[simp] theorem State.pop_wire (s : State) : s.pop.wire = s.wire := rfl
@[simp] theorem State.pop_trace (s : State) : s.pop.trace = s.trace := rfl
@[simp] theorem State.pop_host (s : State) : s.pop.host = s.host := rfl
@[simp] theorem State.pop_inputs (s : State) : s.pop.inputs = s.inputs := rfl
@[simp] theorem State.pop_draws (s : State) : s.pop.draws = s.draws := rfl
@[simp] theorem State.pop_inp (s : State) : s.pop.inp = s.inp := rfl

/-! ## replaceHead -/

@[simp] theorem State.replaceHead_cfg (s : State) (l : List MicroOp) : (s.replaceHead l).cfg = s.cfg := rfl
@[simp] theorem State.replaceHead_prev (s : State) (l : List MicroOp) : (s.replaceHead l).prev = s.prev := rfl
@[simp] theorem State.replaceHead_idle (s : State) (l : List MicroOp) : (s.replaceHead l).idle = s.idle := rfl
@[simp] theorem State.replaceHead_firstEmptyTime (s : State) (l : List MicroOp) : (s.replaceHead l).firstEmptyTime = s.firstEmptyTime := rfl
@[simp] theorem State.replaceHead_emptyCount (s : State) (l : List MicroOp) : (s.replaceHead l).emptyCount = s.emptyCount := rfl
@[simp] theorem State.replaceHead_seq (s : State) (l : List MicroOp) : (s.replaceHead l).seq = l ++ s.seq.tail := rfl
@[simp] theorem State.replaceHead_result (s : State) (l : List MicroOp) : (s.replaceHead l).result = s.result := rfl
@[simp] theorem State.replaceHead_txPkt (s : State) (l : List MicroOp) : (s.replaceHead l).txPkt = s.txPkt := rfl
@[simp] theorem State.replaceHead_txOff (s : State) (l : List MicroOp) : (s.replaceHead l).txOff = s.txOff := rfl
@[simp] theorem State.replaceHead_txPhase (s : State) (l : List MicroOp) : (s.replaceHead l).txPhase = s.txPhase := rfl
@[simp] theorem State.replaceHead_outbuf (s : State) (l : List MicroOp) : (s.replaceHead l).outbuf = s.outbuf := rfl
@[simp] theorem State.replaceHead_wire (s : State) (l : List MicroOp) : (s.replaceHead l).wire = s.wire := rfl
@[simp] theorem State.replaceHead_trace (s : State) (l : List MicroOp) : (s.replaceHead l).trace = s.trace := rfl
@[simp] theorem State.replaceHead_host (s : State) (l : List MicroOp) : (s.replaceHead l).host = s.host := rfl
@[simp] theorem State.replaceHead_inputs (s : State) (l : List MicroOp) : (s.replaceHead l).inputs = s.inputs := rfl
@[simp] theorem State.replaceHead_draws (s : State) (l : List MicroOp) : (s.replaceHead l).draws = s.draws := rfl
@[simp] theorem State.replaceHead_inp (s : State) (l : List MicroOp) : (s.replaceHead l).inp = s.inp := rfl

/-! ## raiseContractViolation -/

@[simp] theorem State.raiseContractViolation_cfg (s : State) (k : Cause) : (s.raiseContractViolation k).cfg = s.cfg := rfl
@[simp] theorem State.raiseContractViolation_prev (s : State) (k : Cause) : (s.raiseContractViolation k).prev = s.prev := rfl
@[simp] theorem State.raiseContractViolation_idle (s : State) (k : Cause) : (s.raiseContractViolation k).idle = s.idle := rfl
@[simp] theorem State.raiseContractViolation_firstEmptyTime (s : State) (k : Cause) : (s.raiseContractViolation k).firstEmptyTime = s.firstEmptyTime := rfl
@[simp] theorem State.raiseContractViolation_emptyCount (s : State) (k : Cause) : (s.raiseContractViolation k).emptyCount = s.emptyCount := rfl
@[simp] theorem State.raiseContractViolation_seq (s : State) (k : Cause) : (s.raiseContractViolation k).seq = s.seq := rfl
@[simp] theorem State.raiseContractViolation_result (s : State) (k : Cause) : (s.raiseContractViolation k).result = .contractViolation k := rfl
@[simp] theorem State.raiseContractViolation_txPkt (s : State) (k : Cause) : (s.raiseContractViolation k).txPkt = s.txPkt := rfl
@[simp] theorem State.raiseContractViolation_txOff (s : State) (k : Cause) : (s.raiseContractViolation k).txOff = s.txOff := rfl
@[simp] theorem State.raiseContractViolation_txPhase (s : State) (k : Cause) : (s.raiseContractViolation k).txPhase = s.txPhase := rfl
@[simp] theorem State.raiseContractViolation_outbuf (s : State) (k : Cause) : (s.raiseContractViolation k).outbuf = s.outbuf := rfl
@[simp] theorem State.raiseContractViolation_wire (s : State) (k : Cause) : (s.raiseContractViolation k).wire = s.wire := rfl
@[simp] theorem State.raiseContractViolation_trace (s : State) (k : Cause) : (s.raiseContractViolation k).trace = s.trace := rfl
@[simp] theorem State.raiseContractViolation_host (s : State) (k : Cause) : (s.raiseContractViolation k).host = s.host := rfl
@[simp] theorem State.raiseContractViolation_inputs (s : State) (k : Cause) : (s.raiseContractViolation k).inputs = s.inputs := rfl
@[simp] theorem State.raiseContractViolation_draws (s : State) (k : Cause) : (s.raiseContractViolation k).draws = s.draws := rfl
@[simp] theorem State.raiseContractViolation_inp (s : State) (k : Cause) : (s.raiseContractViolation k).inp = s.inp := rfl

/-! ## raiseTransportError -/

@[simp] theorem State.raiseTransportError_cfg (s : State) (e : ErrorSite) (r : Bytes) : (s.raiseTransportError e r).cfg = s.cfg := rfl
@[simp] theorem State.raiseTransportError_prev (s : State) (e : ErrorSite) (r : Bytes) : (s.raiseTransportError e r).prev = s.prev := rfl
@[simp] theorem State.raiseTransportError_idle (s : State) (e : ErrorSite) (r : Bytes) : (s.raiseTransportError e r).idle = s.idle := rfl
@[simp] theorem State.raiseTransportError_firstEmptyTime (s : State) (e : ErrorSite) (r : Bytes) : (s.raiseTransportError e r).firstEmptyTime = s.firstEmptyTime := rfl
@[simp] theorem State.raiseTransportError_emptyCount (s : State) (e : ErrorSite) (r : Bytes) : (s.raiseTransportError e r).emptyCount = s.emptyCount := rfl
@[simp] theorem State.raiseTransportError_seq (s : State) (e : ErrorSite) (r : Bytes) : (s.raiseTransportError e r).seq = [] := rfl
@[simp] theorem State.raiseTransportError_result (s : State) (e : ErrorSite) (r : Bytes) : (s.raiseTransportError e r).result = .transportError := rfl
@[simp] theorem State.raiseTransportError_txPkt (s : State) (e : ErrorSite) (r : Bytes) : (s.raiseTransportError e r).txPkt = [] := rfl
@[simp] theorem State.raiseTransportError_txOff (s : State) (e : ErrorSite) (r : Bytes) : (s.raiseTransportError e r).txOff = 0 := rfl
@[simp] theorem State.raiseTransportError_txPhase (s : State) (e : ErrorSite) (r : Bytes) : (s.raiseTransportError e r).txPhase = .idle := rfl
@[simp] theorem State.raiseTransportError_outbuf (s : State) (e : ErrorSite) (r : Bytes) : (s.raiseTransportError e r).outbuf = [] := rfl
@[simp] theorem State.raiseTransportError_wire (s : State) (e : ErrorSite) (r : Bytes) : (s.raiseTransportError e r).wire = s.wire ++ r.take s.inp.errSent := rfl
@[simp] theorem State.raiseTransportError_trace (s : State) (e : ErrorSite) (r : Bytes) : (s.raiseTransportError e r).trace = s.trace ++ [.error e] := rfl
@[simp] theorem State.raiseTransportError_host (s : State) (e : ErrorSite) (r : Bytes) : (s.raiseTransportError e r).host = s.host := rfl
@[simp] theorem State.raiseTransportError_inputs (s : State) (e : ErrorSite) (r : Bytes) : (s.raiseTransportError e r).inputs = s.inputs := rfl
@[simp] theorem State.raiseTransportError_draws (s : State) (e : ErrorSite) (r : Bytes) : (s.raiseTransportError e r).draws = s.draws := rfl
@[simp] theorem State.raiseTransportError_inp (s : State) (e : ErrorSite) (r : Bytes) : (s.raiseTransportError e r).inp = s.inp := rfl

/-! ## drained -/

@[simp] theorem State.drained_cfg (s : State) (k : Nat) : (s.drained k).cfg = s.cfg := rfl
@[simp] theorem State.drained_prev (s : State) (k : Nat) : (s.drained k).prev = s.prev := rfl
@[simp] theorem State.drained_idle (s : State) (k : Nat) : (s.drained k).idle = s.idle := rfl
@[simp] theorem State.drained_firstEmptyTime (s : State) (k : Nat) : (s.drained k).firstEmptyTime = s.firstEmptyTime := rfl
@[simp] theorem State.drained_emptyCount (s : State) (k : Nat) : (s.drained k).emptyCount = s.emptyCount := rfl
@[simp] theorem State.drained_seq (s : State) (k : Nat) : (s.drained k).seq = s.seq := rfl
@[simp] theorem State.drained_result (s : State) (k : Nat) : (s.drained k).result = s.result := rfl
@[simp] theorem State.drained_txPkt (s : State) (k : Nat) : (s.drained k).txPkt = s.txPkt := rfl
@[simp] theorem State.drained_txOff (s : State) (k : Nat) : (s.drained k).txOff = s.txOff := rfl
@[simp] theorem State.drained_txPhase (s : State) (k : Nat) : (s.drained k).txPhase = s.txPhase := rfl
@[simp] theorem State.drained_outbuf (s : State) (k : Nat) : (s.drained k).outbuf = s.outbuf.drop k := rfl
@[simp] theorem State.drained_wire (s : State) (k : Nat) : (s.drained k).wire = s.wire ++ s.outbuf.take k := rfl
@[simp] theorem State.drained_trace (s : State) (k : Nat) : (s.drained k).trace = s.trace := rfl
@[simp] theorem State.drained_host (s : State) (k : Nat) : (s.drained k).host = s.host := rfl
@[simp] theorem State.drained_inputs (s : State) (k : Nat) : (s.drained k).inputs = s.inputs := rfl
@[simp] theorem State.drained_draws (s : State) (k : Nat) : (s.drained k).draws = s.draws := rfl
@[simp] theorem State.drained_inp (s : State) (k : Nat) : (s.drained k).inp = s.inp := rfl

/-! ## flushed -/

@[simp] theorem State.flushed_cfg (s : State) : s.flushed.cfg = s.cfg := rfl
@[simp] theorem State.flushed_prev (s : State) : s.flushed.prev = s.prev := rfl
@[simp] theorem State.flushed_idle (s : State) : s.flushed.idle = s.idle := rfl
@[simp] theorem State.flushed_firstEmptyTime (s : State) : s.flushed.firstEmptyTime = s.firstEmptyTime := rfl
@[simp] theorem State.flushed_emptyCount (s : State) : s.flushed.emptyCount = s.emptyCount := rfl
@[simp] theorem State.flushed_seq (s : State) : s.flushed.seq = s.seq := rfl
@[simp] theorem State.flushed_result (s : State) : s.flushed.result = s.result := rfl
@[simp] theorem State.flushed_txPkt (s : State) : s.flushed.txPkt = s.txPkt := rfl
@[simp] theorem State.flushed_txOff (s : State) : s.flushed.txOff = s.nextOff := rfl
@[simp] theorem State.flushed_txPhase (s : State) : s.flushed.txPhase = s.txPhase := rfl
@[simp] theorem State.flushed_outbuf (s : State) : s.flushed.outbuf = [] := rfl
@[simp] theorem State.flushed_wire (s : State) : s.flushed.wire = s.wire ++ s.outbuf := rfl
@[simp] theorem State.flushed_trace (s : State) : s.flushed.trace = s.trace ++ [.flush] := rfl
@[simp] theorem State.flushed_host (s : State) : s.flushed.host = s.host := rfl
@[simp] theorem State.flushed_inputs (s : State) : s.flushed.inputs = s.inputs := rfl
@[simp] theorem State.flushed_draws (s : State) : s.flushed.draws = s.draws := rfl
@[simp] theorem State.flushed_inp (s : State) : s.flushed.inp = s.inp := rfl

/-! ## startCounting -/

@[simp] theorem State.startCounting_cfg (s : State) : s.startCounting.cfg = s.cfg := rfl
@[simp] theorem State.startCounting_prev (s : State) : s.startCounting.prev = s.prev := rfl
@[simp] theorem State.startCounting_idle (s : State) : s.startCounting.idle = .countingEmpty := rfl
@[simp] theorem State.startCounting_firstEmptyTime (s : State) : s.startCounting.firstEmptyTime = some s.inp.now := rfl
@[simp] theorem State.startCounting_emptyCount (s : State) : s.startCounting.emptyCount = 1 := rfl
@[simp] theorem State.startCounting_seq (s : State) : s.startCounting.seq = s.seq := rfl
@[simp] theorem State.startCounting_result (s : State) : s.startCounting.result = s.result := rfl
@[simp] theorem State.startCounting_txPkt (s : State) : s.startCounting.txPkt = s.txPkt := rfl
@[simp] theorem State.startCounting_txOff (s : State) : s.startCounting.txOff = s.txOff := rfl
@[simp] theorem State.startCounting_txPhase (s : State) : s.startCounting.txPhase = s.txPhase := rfl
@[simp] theorem State.startCounting_outbuf (s : State) : s.startCounting.outbuf = s.outbuf := rfl
@[simp] theorem State.startCounting_wire (s : State) : s.startCounting.wire = s.wire := rfl
@[simp] theorem State.startCounting_trace (s : State) : s.startCounting.trace = s.trace := rfl
@[simp] theorem State.startCounting_host (s : State) : s.startCounting.host = s.host := rfl
@[simp] theorem State.startCounting_inputs (s : State) : s.startCounting.inputs = s.inputs := rfl
@[simp] theorem State.startCounting_draws (s : State) : s.startCounting.draws = s.draws := rfl
@[simp] theorem State.startCounting_inp (s : State) : s.startCounting.inp = s.inp := rfl

/-! ## countFrame -/

@[simp] theorem State.countFrame_cfg (s : State) : s.countFrame.cfg = s.cfg := rfl
@[simp] theorem State.countFrame_prev (s : State) : s.countFrame.prev = s.prev := rfl
@[simp] theorem State.countFrame_idle (s : State) : s.countFrame.idle = s.idle := rfl
@[simp] theorem State.countFrame_firstEmptyTime (s : State) : s.countFrame.firstEmptyTime = s.firstEmptyTime := rfl
@[simp] theorem State.countFrame_emptyCount (s : State) : s.countFrame.emptyCount = bumpCount s.cfg s.emptyCount := rfl
@[simp] theorem State.countFrame_seq (s : State) : s.countFrame.seq = s.seq := rfl
@[simp] theorem State.countFrame_result (s : State) : s.countFrame.result = s.result := rfl
@[simp] theorem State.countFrame_txPkt (s : State) : s.countFrame.txPkt = s.txPkt := rfl
@[simp] theorem State.countFrame_txOff (s : State) : s.countFrame.txOff = s.txOff := rfl
@[simp] theorem State.countFrame_txPhase (s : State) : s.countFrame.txPhase = s.txPhase := rfl
@[simp] theorem State.countFrame_outbuf (s : State) : s.countFrame.outbuf = s.outbuf := rfl
@[simp] theorem State.countFrame_wire (s : State) : s.countFrame.wire = s.wire := rfl
@[simp] theorem State.countFrame_trace (s : State) : s.countFrame.trace = s.trace := rfl
@[simp] theorem State.countFrame_host (s : State) : s.countFrame.host = s.host := rfl
@[simp] theorem State.countFrame_inputs (s : State) : s.countFrame.inputs = s.inputs := rfl
@[simp] theorem State.countFrame_draws (s : State) : s.countFrame.draws = s.draws := rfl
@[simp] theorem State.countFrame_inp (s : State) : s.countFrame.inp = s.inp := rfl

/-! ## toAwake -/

@[simp] theorem State.toAwake_cfg (s : State) : s.toAwake.cfg = s.cfg := rfl
@[simp] theorem State.toAwake_prev (s : State) : s.toAwake.prev = s.prev := rfl
@[simp] theorem State.toAwake_idle (s : State) : s.toAwake.idle = .awake := rfl
@[simp] theorem State.toAwake_firstEmptyTime (s : State) : s.toAwake.firstEmptyTime = none := rfl
@[simp] theorem State.toAwake_emptyCount (s : State) : s.toAwake.emptyCount = 0 := rfl
@[simp] theorem State.toAwake_seq (s : State) : s.toAwake.seq = s.seq := rfl
@[simp] theorem State.toAwake_result (s : State) : s.toAwake.result = s.result := rfl
@[simp] theorem State.toAwake_txPkt (s : State) : s.toAwake.txPkt = s.txPkt := rfl
@[simp] theorem State.toAwake_txOff (s : State) : s.toAwake.txOff = s.txOff := rfl
@[simp] theorem State.toAwake_txPhase (s : State) : s.toAwake.txPhase = s.txPhase := rfl
@[simp] theorem State.toAwake_outbuf (s : State) : s.toAwake.outbuf = s.outbuf := rfl
@[simp] theorem State.toAwake_wire (s : State) : s.toAwake.wire = s.wire := rfl
@[simp] theorem State.toAwake_trace (s : State) : s.toAwake.trace = s.trace := rfl
@[simp] theorem State.toAwake_host (s : State) : s.toAwake.host = s.host := rfl
@[simp] theorem State.toAwake_inputs (s : State) : s.toAwake.inputs = s.inputs := rfl
@[simp] theorem State.toAwake_draws (s : State) : s.toAwake.draws = s.draws := rfl
@[simp] theorem State.toAwake_inp (s : State) : s.toAwake.inp = s.inp := rfl

end Sys2Proof.Machine
end

