-- ==== Sys2Proof/Laws/Ops.lean ====
section
/-! SUPPORT. What each shared operation can do, said once: issuing, the steps of TX, the idle step. Later proofs
cite these and do not unfold the operations. -/

namespace Sys2Proof.Machine

variable {s t : State}

/-! ## Issuing -/

theorem canIssue_iff : s.canIssue = true ↔ s.seq = [] ∧ s.inp.chOpen = true := by
  simp [State.canIssue, State.busy]

theorem issue_of_canIssue (h : s.canIssue = true) (e : Expansion) :
    issue s e = match e with
      | .error k => .next (s.raiseContractViolation k)
      | .ok l => .next (s.install l) := by
  obtain ⟨h1, h2⟩ := canIssue_iff.1 h
  cases e <;> simp [issue, State.busy, h1, h2]

theorem issue_busy (h : s.seq ≠ []) (e : Expansion) : issue s e = .refused .hostBusy := by
  simp [issue, State.busy, h]

theorem issue_closed (h : s.seq = []) (hc : s.inp.chOpen = false) (e : Expansion) :
    issue s e = .refused .channelNotOpen := by
  simp [issue, State.busy, h, hc]

/-- An issue that answers a next state: the host had the move, and either RESULT or SEQ is written. -/
theorem issue_cases {e : Expansion} (h : issue s e = .next t) :
    s.canIssue = true ∧
      ((∃ k, e = .error k ∧ t = s.raiseContractViolation k) ∨ ∃ l, e = .ok l ∧ t = s.install l) := by
  unfold issue at h
  split at h
  · cases h
  · split at h
    · refine ⟨by simp_all [State.canIssue], ?_⟩
      cases e with
      | error k => exact .inl ⟨k, rfl, by simpa using h.symm⟩
      | ok l => exact .inr ⟨l, rfl, by simpa using h.symm⟩
    · cases h

/-- An issue never faults. -/
theorem issue_ne_fault (e : Expansion) (r : Fault) : issue s e ≠ .fault r := by
  unfold issue
  split
  · simp
  · split
    · cases e <;> simp
    · simp

@[simp] theorem checked_none (l : List MicroOp) : checked none l = .ok l := rfl

@[simp] theorem checked_some (k : Cause) (l : List MicroOp) : checked (some k) l = .error k := rfl

theorem checked_ok {v : Option Cause} {l m : List MicroOp} (h : checked v l = .ok m) : v = none ∧ m = l := by
  cases v with
  | none => exact ⟨rfl, by simpa using h.symm⟩
  | some k => simp at h

/-! ## The steps of TX (R72 to R78) -/

/-- Everything one step of a TX can do. -/
theorem performTx_cases (pkt : Bytes) (s : State) :
    (s.txPhase = .idle ∧ pkt = [] ∧ performTx pkt s = s.pop) ∨
    (s.txPhase = .idle ∧ pkt ≠ [] ∧
      performTx pkt s = { s with txPkt := pkt, txOff := 0, txPhase := .pollPre }) ∨
    (s.txPhase = .pollPre ∧ performTx pkt s = txPoll .write s) ∨
    (s.txPhase = .write ∧ s.inp.chErr = true ∧
      performTx pkt s = s.raiseTransportError .write (s.outbuf ++ s.chunkNow)) ∨
    (s.txPhase = .write ∧ s.inp.chErr = false ∧ performTx pkt s =
      { s with
        outbuf := s.outbuf ++ s.chunkNow
        trace := s.trace ++ [.write s.chunkNow]
        txPhase := .pollPost }) ∨
    (s.txPhase = .pollPost ∧ performTx pkt s = txPoll .flush s) ∨
    (s.txPhase = .flush ∧ s.inp.chErr = true ∧
      performTx pkt s = s.raiseTransportError .flush s.outbuf) ∨
    (s.txPhase = .flush ∧ s.inp.chErr = false ∧ s.nextOff < s.txPkt.length ∧
      performTx pkt s = { s.flushed with txPhase := .pollPre }) ∨
    (s.txPhase = .flush ∧ s.inp.chErr = false ∧ s.nextOff = s.txPkt.length ∧
      performTx pkt s =
        { s.flushed with txPkt := [], txOff := 0, txPhase := .idle, seq := s.seq.tail }) := by
  cases hp : s.txPhase with
  | idle =>
    by_cases he : pkt = []
    · simp [performTx, hp, txBegin, he]
    · simp [performTx, hp, txBegin, he]
  | pollPre => simp [performTx, hp]
  | write =>
    cases he : s.inp.chErr <;> simp [performTx, hp, txWrite, he]
  | pollPost => simp [performTx, hp]
  | flush =>
    cases he : s.inp.chErr with
    | true => simp [performTx, hp, txFlush, he]
    | false =>
      have hle : s.nextOff ≤ s.txPkt.length := Nat.min_le_right _ _
      rcases Nat.lt_or_eq_of_le hle with hlt | heq
      · simp [performTx, hp, txFlush, he, State.endChunk, hlt]
      · simp [performTx, hp, txFlush, he, State.endChunk, heq]

/-! ## The idle step (R141 to R146) -/

/-- Everything a performed IDLESTEP can do when it answers a next state. -/
theorem idleStepEffect_cases {b : Bool} (h : idleStepEffect b s = .next t) :
    (s.idle = .awake ∧ b = false ∧ t = s.pop) ∨
    (s.idle = .awake ∧ b = true ∧ t = s.startCounting.pop) ∨
    (∃ t0, s.idle = .countingEmpty ∧ b = true ∧ s.firstEmptyTime = some t0 ∧
      delayReached s.cfg (s.inp.now - t0) = true ∧
      t = s.countFrame.replaceHead [.tx s.cfg.opcSleep, .idleCommit .asleep]) ∨
    (∃ t0, s.idle = .countingEmpty ∧ b = true ∧ s.firstEmptyTime = some t0 ∧
      delayReached s.cfg (s.inp.now - t0) = false ∧ t = s.countFrame.pop) ∨
    (s.idle = .countingEmpty ∧ b = false ∧ t = s.toAwake.pop) ∨
    (s.idle = .asleep ∧ b = true ∧ t = s.pop) ∨
    (s.idle = .asleep ∧ b = false ∧ t = s.replaceHead [.tx s.cfg.opcWake, .idleCommit .awake]) := by
  cases hi : s.idle <;> cases b <;> simp only [idleStepEffect, hi] at h
  · simpa using h.symm
  · simpa using h.symm
  · simpa using h.symm
  · cases ht : s.firstEmptyTime with
    | none => simp [ht] at h
    | some t0 =>
      simp only [ht] at h
      cases hd : delayReached s.cfg (s.inp.now - t0) <;> simp [hd] at h <;> simp [hd, h]
  · simpa using h.symm
  · simpa using h.symm

/-- A performed IDLESTEP answers a next state whenever the first-empty time is there in COUNTING_EMPTY. -/
theorem idleStepEffect_next (b : Bool) (h : s.idle = .countingEmpty → s.firstEmptyTime ≠ none) :
    ∃ t, idleStepEffect b s = .next t := by
  cases hi : s.idle <;> cases b <;> simp only [idleStepEffect, hi] <;> try exact ⟨_, rfl⟩
  cases ht : s.firstEmptyTime with
  | none => exact absurd ht (h hi)
  | some t0 =>
    dsimp only
    split <;> exact ⟨_, rfl⟩

theorem execIdleStep_due {b : Bool} (h : s.seq.head? = some (.idleStep b)) :
    exec (.idleStep b) s = idleStepEffect b s := by
  simp [exec, execIdleStep, h]

end Sys2Proof.Machine
end

