-- ==== Sys2Proof/Laws/PerInstr.lean ====
section
/-! SUPPORT. Per-instruction families: `CommandRoundTrip`, the host command port drops no operand (R61, R62). -/

namespace Sys2Proof.Laws.CommandRoundTrip

/-- The command that issues the operation is read as that operation. -/
def Statement (i : Instr) : Prop := ∀ cmd, encodeCommand i = some cmd → decodeCommand cmd = .ok i

theorem reset : Statement .reset := by rintro _ ⟨⟩; rfl

theorem clear : Statement .clear := by rintro _ ⟨⟩; rfl

theorem moveCursor (x y : Int) : Statement (.moveCursor x y) := by rintro _ ⟨⟩; rfl

theorem setBrightness (l : Int) : Statement (.setBrightness l) := by rintro _ ⟨⟩; rfl

theorem showImage (b : Bitmap) (w h : Int) : Statement (.showImage b w h) := by rintro _ ⟨⟩; rfl

theorem scroll (x y t sp : Int) : Statement (.scroll x y t sp) := by rintro _ ⟨⟩; rfl

theorem sleep : Statement .sleep := by rintro _ ⟨⟩; rfl

theorem wake : Statement .wake := by rintro _ ⟨⟩; rfl

theorem pack (b : Bitmap) (w h : Int) : Statement (.pack b w h) := by rintro _ ⟨⟩; rfl

theorem write (p : Bytes) : Statement (.write p) := by rintro _ ⟨⟩; rfl

theorem update (f : Bitmap) : Statement (.update f) := by rintro _ ⟨⟩; rfl

theorem discardPrev : Statement .discardPrev := by rintro _ ⟨⟩; rfl

theorem idleStep (b : Bool) : Statement (.idleStep b) := by rintro _ ⟨⟩

end Sys2Proof.Laws.CommandRoundTrip
end

