-- ==== Sys2Proof/Laws/Step.lean ====
section
/-! SUPPORT. What a step can do, said once. -/

namespace Sys2Proof.Machine

variable {s t : State}

@[simp] theorem andTick_next (s : State) : andTick (.next s) = .next s.tick := rfl

@[simp] theorem andTick_fault (r : Fault) : andTick (.fault r) = .fault r := rfl

@[simp] theorem andTick_refused (r : Refusal) : andTick (.refused r) = .refused r := rfl

theorem andTick_eq_next {r : StepResult} : andTick r = .next t ↔ ∃ u, r = .next u ∧ t = u.tick := by
  cases r <;> simp [eq_comm]

/-! ## The meanings as issues -/

theorem exec_reset (s : State) : exec .reset s = issue s (expandReset s.cfg) := rfl

theorem exec_clear (s : State) : exec .clear s = issue s (expandClear s.cfg) := rfl

theorem exec_moveCursor (s : State) (x y : Int) : exec (.moveCursor x y) s = issue s (expandMoveCursor s.cfg x y) := rfl

theorem exec_setBrightness (s : State) (l : Int) : exec (.setBrightness l) s = issue s (expandSetBrightness s.cfg l) := rfl

theorem exec_showImage (s : State) (b : Bitmap) (w h : Int) : exec (.showImage b w h) s = issue s (expandShowImage s.cfg b w h) := rfl

theorem exec_scroll (s : State) (x y t sp : Int) : exec (.scroll x y t sp) s = issue s (expandScroll s.cfg x y t sp) := rfl

theorem exec_sleep (s : State) : exec .sleep s = issue s (expandSleep s.cfg) := rfl

theorem exec_wake (s : State) : exec .wake s = issue s (expandWake s.cfg) := rfl

theorem exec_pack (s : State) (b : Bitmap) (w h : Int) : exec (.pack b w h) s = issue s (expandPack b w h) := rfl

theorem exec_write (s : State) (p : Bytes) : exec (.write p) s = issue s (expandWrite p) := rfl

theorem exec_update (s : State) (f : Bitmap) (h : s.prevUnreadable f = false) :
    exec (.update f) s = issue s (expandUpdate s.cfg s.prev f) := by
  simp [exec, execUpdate, h]

theorem exec_discardPrev (s : State) :
    exec .discardPrev s = issue { s with prev := none } expandDiscardPrev := rfl

/-- Everything a host operation that answers a next state can do: it raises a contract violation, or installs a
list and, if it is DISCARD_PREV, forgets PREV. -/
theorem exec_host_cases {i : Instr} (hi : ∀ b, i ≠ .idleStep b) (h : exec i s = .next t) :
    s.canIssue = true ∧
      ((∃ k, t = s.raiseContractViolation k) ∨ (∃ l, i ≠ .discardPrev ∧ t = s.install l) ∨
        (i = .discardPrev ∧ t = { s with prev := none, seq := [.done .ok] })) := by
  cases i with
  | idleStep b => exact absurd rfl (hi b)
  | discardPrev =>
    obtain ⟨hc, ⟨k, hk, -⟩ | ⟨l, hl, rfl⟩⟩ := issue_cases (show issue _ expandDiscardPrev = _ from h)
    · simp [expandDiscardPrev] at hk
    · obtain rfl : [MicroOp.done .ok] = l := by simpa [expandDiscardPrev] using hl
      exact ⟨hc, .inr (.inr ⟨rfl, rfl⟩)⟩
  | update f =>
    simp only [exec, execUpdate] at h
    split at h
    · cases h
    · obtain ⟨hc, ⟨k, -, rfl⟩ | ⟨l, -, rfl⟩⟩ := issue_cases h
      · exact ⟨hc, .inl ⟨k, rfl⟩⟩
      · exact ⟨hc, .inr (.inl ⟨l, by simp, rfl⟩)⟩
  | _ =>
    simp only [exec, execReset, execClear, execMoveCursor, execSetBrightness, execShowImage, execScroll,
      execSleep, execWake, execPack, execWrite] at h
    obtain ⟨hc, ⟨k, -, rfl⟩ | ⟨l, -, rfl⟩⟩ := issue_cases h
    · exact ⟨hc, .inl ⟨k, rfl⟩⟩
    · exact ⟨hc, .inr (.inl ⟨l, by simp, rfl⟩)⟩

/-- Everything a step that answers a next state can do, before it uses up its inputs: the channel drains, the
block performs the head of SEQ, or SEQ is empty and the host waits or issues. -/
theorem step_cases (h : step s = .next t) :
    ∃ u, t = u.tick ∧
      ((s.drainDue = true ∧ u = s.drained s.inp.drain) ∨
       (s.drainDue = false ∧ ∃ m rest, s.seq = m :: rest ∧ perform m s = .next u) ∨
       (s.drainDue = false ∧ s.seq = [] ∧ u = s) ∨
       (s.drainDue = false ∧ s.seq = [] ∧ ∃ cmd rest i, s.host = cmd :: rest ∧ s.inp.chOpen = true ∧
          decodeCommand cmd = .ok i ∧ exec i { s with host := rest } = .next u)) := by
  obtain ⟨u, hu, rfl⟩ := andTick_eq_next.1 h
  refine ⟨u, rfl, ?_⟩
  unfold turn at hu
  cases hd : s.drainDue with
  | true => exact .inl ⟨rfl, by simpa [hd] using hu.symm⟩
  | false =>
    simp only [hd, Bool.false_eq_true, if_false] at hu
    cases hs : s.seq with
    | cons m rest => exact .inr (.inl ⟨rfl, m, rest, rfl, by simpa [hs] using hu⟩)
    | nil =>
      simp only [hs, hostTurn] at hu
      cases hh : s.host with
      | nil => exact .inr (.inr (.inl ⟨rfl, rfl, by simpa [hh] using hu.symm⟩))
      | cons cmd rest =>
        cases hc : s.inp.chOpen with
        | false => exact .inr (.inr (.inl ⟨rfl, rfl, by simpa [hh, hc] using hu.symm⟩))
        | true =>
          simp only [hh, hc, if_true] at hu
          cases hdec : decodeCommand cmd with
          | error e => simp [hdec] at hu
          | ok i => exact .inr (.inr (.inr ⟨rfl, rfl, cmd, rest, i, rfl, rfl, hdec, by simpa [hdec] using hu⟩))

/-- Everything the block can do with the head of SEQ. -/
theorem perform_cases {m : MicroOp} (h : perform m s = .next t) :
    (∃ pkt, m = .tx pkt ∧ t = performTx pkt s) ∨ (∃ f, m = .setPrev f ∧ t = performSetPrev f s) ∨
    (∃ b, m = .idleStep b ∧ idleStepEffect b s = .next t) ∨
    (∃ e, m = .idleCommit e ∧ t = performIdleCommit e s) ∨ (∃ r, m = .done r ∧ t = performDone r s) := by
  cases m with
  | tx pkt => exact .inl ⟨pkt, rfl, by simpa [perform] using h.symm⟩
  | setPrev f => exact .inr (.inl ⟨f, rfl, by simpa [perform] using h.symm⟩)
  | idleStep b =>
    refine .inr (.inr (.inl ⟨b, rfl, ?_⟩))
    simp only [perform, exec, execIdleStep] at h
    split at h
    · exact h
    · cases h
  | idleCommit e => exact .inr (.inr (.inr (.inl ⟨e, rfl, by simpa [perform] using h.symm⟩)))
  | done r => exact .inr (.inr (.inr (.inr ⟨r, rfl, by simpa [perform] using h.symm⟩)))

/-- A command that selects an operation decodes, and never to IDLE_STEP. -/
theorem decodeCommand_selects {cmd : HostCommand} (h : cmd.selects = true) :
    ∃ i, decodeCommand cmd = .ok i ∧ ∀ b, i ≠ .idleStep b := by
  simp only [HostCommand.selects, decide_eq_true_eq] at h
  unfold decodeCommand
  interval_cases cmd.selector.val <;> exact ⟨_, rfl, by simp⟩

/-! ## Runs -/

/-- A run of n + 1 steps is a step and a run of n. -/
theorem core_run_succ (n : Nat) (s : State) :
    Sys2Proof.core.run (n + 1) s = match step s with
      | .next u => Sys2Proof.core.run n u
      | .fault r => .fault r
      | .refused r => .refused r := by
  have general : ∀ (M : Host.Core) (s : M.State), M.run (n + 1) s = match M.step s with
      | .next u => M.run n u
      | .fault r => .fault r
      | .refused r => .refused r := by
    intro M s
    cases h : M.step s <;> simp only [Host.Core.run, h]
  rw [general Sys2Proof.core s]
  cases hs : Sys2Proof.core.step s with
  | next u => rw [show step s = .next u from hs]
  | fault r => rw [show step s = .fault r from hs]
  | refused r => rw [show step s = .refused r from hs]

end Sys2Proof.Machine
end

