-- ==== Sys2Proof/Tests/Slice0.lean ====
section
/-! SUPPORT. The model's own tests, each on one step or one function, with the expected values taken from
spec/ (95_test_vectors.md where a line names no other file), and the witnesses: for every obligation with
hypotheses, concrete values that meet them. -/

namespace Sys2Proof.Tests

open Sys2Proof Sys2Proof.Machine

set_option maxRecDepth 4000

/-! ## Small blocks -/

/-- The parameters of section 2 of 95_test_vectors.md: W = 4, H = 32 and the defaults, with BOOT_SEQ = []. -/
def cfg : Config := { Config.default with dispW := 4, initialBrightness := 128, bootSeq := [] }

/-- READY = 1, NOW = 0, CH_ERR = 0, CH_OPEN = 1, no drain. -/
def quiet : Inputs := { ready := true, now := 0, chErr := false, chOpen := true, drain := 0, errSent := 0 }

/-- A block with nothing to do, and the inputs of its next step. -/
def idleBlock (i : Inputs) : State := { State.resetOf cfg with inputs := [i] }

/-- The same block with SEQ installed. -/
def busyBlock (i : Inputs) (l : List MicroOp) : State := { idleBlock i with seq := l }

/-- The same block in the middle of a TX. -/
def sending (i : Inputs) (pkt : Bytes) (off : Nat) (ph : TxPhase) (out : Bytes) : State :=
  { busyBlock i [.tx pkt, .done .ok] with txPkt := pkt, txOff := off, txPhase := ph, outbuf := out }

/-- The same block with idle registers and an IDLESTEP due. -/
def idling (i : Inputs) (st : Idle) (t0 : Option Time) (n : Nat) (b : Bool) : State :=
  { busyBlock i [.idleStep b, .done .noChange] with idle := st, firstEmptyTime := t0, emptyCount := n }

/-- The w by h bitmap whose set pixels are the ones listed. -/
def bitmapOf (w h : Nat) (set : List (Nat × Nat)) : Bitmap where
  w := w
  h := h
  pix := (List.range (w * h)).map (fun k => if set.contains (k % w, k / w) then 1 else 0)

/-- The all-zero frame of `cfg`. -/
def zero : Bitmap := bitmapOf 4 32 []

/-- A property of the next state of an outcome. -/
def onNext (r : StepResult) (p : State → Bool) : Bool :=
  match r with
  | .next s => p s
  | .fault _ => false
  | .refused _ => false

/-- What issuing an operation installs in SEQ, and the RESULT. -/
def issued (i : Instr) (l : List MicroOp) (r : Result) : Bool :=
  onNext (exec i (idleBlock quiet)) (fun s => decide (s.seq = l ∧ s.result = r))

/-! ## Well-formedness: each check refuses an ill-formed value -/

theorem test_wf_showImage_pixel : (Instr.showImage ⟨1, 8, [2]⟩ 1 8).wellFormed cfg = false := by decide

theorem test_wf_pack_pixel : (Instr.pack ⟨1, 8, [0, 2]⟩ 1 8).wellFormed cfg = false := by decide

theorem test_wf_update_pixel : (Instr.update ⟨1, 8, [5]⟩).wellFormed cfg = false := by decide

theorem test_wf_accepts : (Instr.update zero).wellFormed cfg = true ∧
    (Instr.pack ⟨0, 8, [255]⟩ 0 8).wellFormed { cfg with pixBits := 8 } = true := by decide

theorem test_legal_accepts : cfg.Legal ∧ cfg.PrefixFree := by decide

/-- Whether a configuration is legal. -/
def isLegal (c : Config) : Bool := decide c.Legal

theorem test_legal_width : [{ cfg with dispW := 0 }, { cfg with dispW := 65536 }].any isLegal = false := by decide

theorem test_legal_height :
    [{ cfg with dispH := 0 }, { cfg with dispH := 12 }, { cfg with dispH := 524288 }].any isLegal = false := by decide

theorem test_legal_chunk : isLegal { cfg with chunk := 0 } = false := by decide

theorem test_legal_opcode_lengths :
    [{ cfg with opcReset := [0x1B] }, { cfg with opcClear := [] }, { cfg with opcCursor := [] },
     { cfg with opcBrightness := [] }, { cfg with opcImage := [] }, { cfg with opcScroll := [] },
     { cfg with opcSleep := [1, 2, 3, 4] }, { cfg with opcWake := [1, 2, 3, 4, 5, 6] }].any isLegal = false := by
  decide

theorem test_legal_sleep_is_not_wake : isLegal { cfg with opcWake := cfg.opcSleep } = false := by decide

theorem test_legal_scalars :
    [{ cfg with delayDen := 0 }, { cfg with levelDen := 0 }, { cfg with initialBrightness := 257 },
     { cfg with revScanLow := 2 }, { cfg with ticksPerSecond := 0 }, { cfg with pixBits := 0 },
     { cfg with cntMax := some 0 }].any isLegal = false := by decide

theorem test_prefixFree_refuses : ¬ Config.PrefixFree { cfg with opcClear := [0x1F] } := by decide

/-! ## Decoding: words written out from R51 and R57, and commands from R62 -/

theorem test_decode_fixed : decode cfg [0x1B, 0x40] = .ok (.reset, []) ∧ decode cfg [0x0C] = .ok (.clear, []) ∧
    decode cfg [0x1F, 0x28, 0x61, 0x40, 0x00] = .ok (.sleep, []) ∧
    decode cfg [0x1F, 0x28, 0x61, 0x40, 0x01] = .ok (.wake, []) := by decide

theorem test_decode_moveCursor :
    decode cfg [0x1F, 0x24, 0x2C, 0x01, 0x02, 0x00] = .ok (.moveCursor 300 16, []) ∧
    decode cfg [0x1F, 0x24, 0xFF, 0xFF, 0xFF, 0xFF] = .ok (.moveCursor 65535 524280, []) := by decide

/-- The least level of the byte 1 is 0; of the byte 2 it is 48/256 (42_encoder.md R99's table). -/
theorem test_decode_setBrightness : decode { cfg with levelDen := 16 } [0x1F, 0x58, 0x01] = .ok (.setBrightness 0, []) ∧
    decode { cfg with levelDen := 16 } [0x1F, 0x58, 0x02] = .ok (.setBrightness 3, []) := by decide

/-- 41_bitpacker.md section 3. -/
theorem test_decode_showImage :
    decode cfg [0x1F, 0x28, 0x66, 0x11, 0x02, 0x00, 0x02, 0x00, 0x01, 0x01, 0x02, 0x80, 0x81, 0x0C] =
      .ok (.showImage (bitmapOf 2 16 [(0, 0), (0, 9), (1, 7), (1, 8), (1, 15)]) 2 16, [0x0C]) := by decide

theorem test_decode_scroll : decode cfg [0x1F, 0x28, 0x61, 0x10, 0x09, 0x00, 0x03, 0x00, 0x05] =
      .ok (.scroll 2 8 3 5, []) ∧
    decode cfg [0x1F, 0x28, 0x61, 0x10, 0x2F, 0x02, 0xFF, 0xFF, 0xFF] = .ok (.scroll 139 24 65535 255, []) := by
  decide

theorem test_decode_rejects : decode cfg [] = .error .empty ∧ decode cfg [0x1F, 0x29] = .error .unknownOpcode ∧
    decode cfg [0x1F, 0x24, 0x00] = .error .truncated ∧
    decode cfg [0x1F, 0x28, 0x66, 0x11, 0x02, 0x00, 0x01, 0x00, 0x01, 0xFF] = .error .truncated ∧
    decode { cfg with levelDen := 16 } [0x1F, 0x58, 0x09] = .error .brightnessByte := by decide

theorem test_command_selectors : decodeCommand (bareCommand 0) = .ok .reset ∧
    decodeCommand (bareCommand 1) = .ok .clear ∧ decodeCommand (bareCommand 6) = .ok .sleep ∧
    decodeCommand (bareCommand 7) = .ok .wake ∧ decodeCommand (bareCommand 11) = .ok .discardPrev ∧
    decodeCommand (bareCommand 12) = .error .noSuchSelector := by decide

theorem test_command_operands : decodeCommand { bareCommand 2 with arg0 := 1, arg1 := 2 } = .ok (.moveCursor 1 2) ∧
    decodeCommand { bareCommand 3 with arg0 := 1 } = .ok (.setBrightness 1) ∧
    decodeCommand { bareCommand 4 with bitmap := zero, arg0 := 1, arg1 := 2 } = .ok (.showImage zero 1 2) ∧
    decodeCommand { bareCommand 5 with arg0 := 1, arg1 := 2, arg2 := 3, arg3 := 4 } = .ok (.scroll 1 2 3 4) ∧
    decodeCommand { bareCommand 8 with bitmap := zero, arg0 := 1, arg1 := 2 } = .ok (.pack zero 1 2) ∧
    decodeCommand { bareCommand 9 with packet := [7] } = .ok (.write [7]) ∧
    decodeCommand { bareCommand 10 with bitmap := zero } = .ok (.update zero) := by decide

theorem test_idleStep_has_no_command (b : Bool) : encodeCommand (.idleStep b) = none := rfl

/-! ## One step of each operation -/

theorem test_reset : issued .reset [.tx [0x1B, 0x40], .done .ok] .ok = true := by decide

theorem test_clear : issued .clear [.tx [0x0C], .done .ok] .ok = true := by decide

theorem test_moveCursor : issued (.moveCursor 300 20) [.tx [0x1F, 0x24, 0x2C, 0x01, 0x02, 0x00], .done .ok] .ok =
    true := by decide

theorem test_moveCursor_range :
    issued (.moveCursor 65535 524287) [.tx [0x1F, 0x24, 0xFF, 0xFF, 0xFF, 0xFF], .done .ok] .ok = true ∧
    issued (.moveCursor 65536 0) [] (.contractViolation .fieldRange) = true ∧
    issued (.moveCursor 0 524288) [] (.contractViolation .fieldRange) = true ∧
    issued (.moveCursor (-1) 0) [] (.contractViolation .fieldRange) = true := by decide

/-- Level 80/256 is the tie 2.5: 3 with HALF_UP, 2 with HALF_EVEN. -/
theorem test_setBrightness : issued (.setBrightness 144) [.tx [0x1F, 0x58, 0x05], .done .ok] .ok = true ∧
    issued (.setBrightness 0) [.tx [0x1F, 0x58, 0x01], .done .ok] .ok = true ∧
    issued (.setBrightness 257) [] (.contractViolation .brightnessRange) = true := by decide

theorem test_brightness_ties : [0, 15, 16, 17, 48, 80, 128, 144, 239, 240, 256].map (brightnessLevel cfg) =
      [1, 1, 1, 1, 2, 3, 4, 5, 7, 8, 8] ∧
    [0, 15, 16, 17, 48, 80, 128, 144, 239, 240, 256].map
      (brightnessLevel { cfg with roundTies := .halfEven }) = [1, 1, 1, 1, 2, 2, 4, 4, 7, 8, 8] := by decide

theorem test_showImage :
    issued (.showImage (bitmapOf 2 16 [(0, 0), (0, 9), (1, 7), (1, 8), (1, 15)]) 2 16)
      [.tx [0x1F, 0x28, 0x66, 0x11, 0x02, 0x00, 0x02, 0x00, 0x01, 0x01, 0x02, 0x80, 0x81], .done .ok] .ok =
    true := by decide

/-- 2.6: both checks fail and the first is reported (R167); and a header-only image. -/
theorem test_showImage_checks :
    issued (.showImage ⟨4, 10, List.replicate 40 0⟩ 4 12) [] (.contractViolation .heightNotMult8) = true ∧
    issued (.showImage ⟨4, 0, []⟩ 4 0)
      [.tx [0x1F, 0x28, 0x66, 0x11, 0x04, 0x00, 0x00, 0x00, 0x01], .done .ok] .ok = true := by decide

theorem test_scroll : issued (.scroll 139 24 65535 255)
    [.tx [0x1F, 0x28, 0x61, 0x10, 0x2F, 0x02, 0xFF, 0xFF, 0xFF], .done .ok] .ok = true := by decide

theorem test_scroll_range : issued (.scroll 0 0 1 256) [] (.contractViolation .fieldRange) = true ∧
    issued (.scroll 16384 0 1 1) [] (.contractViolation .fieldRange) = true := by decide

theorem test_sleep : issued .sleep [.tx [0x1F, 0x28, 0x61, 0x40, 0x00], .done .ok] .ok = true := by decide

theorem test_wake : issued .wake [.tx [0x1F, 0x28, 0x61, 0x40, 0x01], .done .ok] .ok = true := by decide

/-- The 8-bit row of section 2.2: "any non-zero intensity sets the bit". -/
theorem test_pack : issued (.pack ⟨1, 8, [0, 1, 255, 0, 0, 2, 0, 0]⟩ 1 8) [.done (.packed [0x26])] .ok = true ∧
    issued (.pack (bitmapOf 3 8 [(0, 0), (1, 1), (2, 2), (0, 7)]) 3 8)
      [.done (.packed [0x81, 0x02, 0x04])] .ok = true := by decide

theorem test_pack_checks : issued (.pack ⟨4, 8, List.replicate 31 0⟩ 4 8) [] (.contractViolation .bitmapSize) = true ∧
    issued (.pack ⟨4, 12, []⟩ 4 12) [] (.contractViolation .heightNotMult8) = true ∧
    issued (.pack ⟨5, 0, []⟩ 5 0) [.done (.packed [])] .ok = true := by decide

theorem test_write : issued (.write [0x1B, 0x40, 0x0C]) [.tx [0x1B, 0x40, 0x0C], .done .ok] .ok = true := by decide

/-- Pixel (2, 10): the document's band-alignment test. -/
theorem test_update_band : onNext (exec (.update (bitmapOf 4 32 [(2, 10)])) { idleBlock quiet with prev := some zero })
    (fun s => decide (s.seq =
      [.tx [0x1F, 0x24, 0x00, 0x00, 0x01, 0x00],
       .tx [0x1F, 0x28, 0x66, 0x11, 0x04, 0x00, 0x01, 0x00, 0x01, 0x00, 0x00, 0x04, 0x00],
       .setPrev (bitmapOf 4 32 [(2, 10)]), .idleStep false, .done (.bandUpdate 8 16)])) = true := by decide

/-- Rows of section 2.4: a tie at row 4, an aligned end at row 8, row 0 alone, a start beyond the change. -/
theorem test_update_bands : band cfg (bitmapOf 4 32 [(1, 4)]) zero = some (8, 8) ∧
    band { cfg with roundTies := .halfEven } (bitmapOf 4 32 [(1, 4)]) zero = some (0, 8) ∧
    band cfg (bitmapOf 4 32 [(1, 0)]) zero = none ∧
    band { cfg with revScanLow := 0 } (bitmapOf 4 32 [(1, 0)]) zero = some (0, 0) ∧
    band cfg (bitmapOf 4 32 [(0, 5), (3, 20)]) zero = some (8, 24) ∧
    band cfg (bitmapOf 4 32 [(1, 31)]) zero = some (32, 32) := by decide

theorem test_discardPrev : onNext (exec .discardPrev { idleBlock quiet with prev := some zero })
    (fun s => decide (s.prev = none ∧ s.seq = [.done .ok])) = true := by decide

/-- Rows 4, 3 and 6 of section 2.5: 60 ≥ 60, 59 < 60, and a clock that went back. -/
theorem test_idleStep_counting :
    onNext (exec (.idleStep true) (idling { quiet with now := 65 } .countingEmpty (some 5) 2 true))
      (fun s => decide (s.idle = .countingEmpty ∧ s.emptyCount = 3 ∧ s.seq =
        [.tx [0x1F, 0x28, 0x61, 0x40, 0x00], .idleCommit .asleep, .done .noChange])) = true ∧
    onNext (exec (.idleStep true) (idling { quiet with now := 64 } .countingEmpty (some 5) 1 true))
      (fun s => decide (s.emptyCount = 2 ∧ s.seq = [.done .noChange])) = true ∧
    onNext (exec (.idleStep true) (idling { quiet with now := 3 } .countingEmpty (some 5) 2 true))
      (fun s => decide (s.emptyCount = 3 ∧ s.seq = [.done .noChange])) = true := by decide

/-- Rows 2 and 9 of section 2.5: the first blank frame, and the wake edge. -/
theorem test_idleStep_edges :
    onNext (exec (.idleStep true) (idling { quiet with now := 5 } .awake none 0 true))
      (fun s => decide (s.idle = .countingEmpty ∧ s.firstEmptyTime = some 5 ∧ s.emptyCount = 1)) = true ∧
    onNext (exec (.idleStep false) (idling { quiet with now := 2000 } .asleep (some 5) 3 false))
      (fun s => decide (s.idle = .asleep ∧ s.emptyCount = 3 ∧ s.seq =
        [.tx [0x1F, 0x28, 0x61, 0x40, 0x01], .idleCommit .awake, .done .noChange])) = true := by decide

/-- Step 21 of program 3: CH_ERR at the flush of 08 00 01 00, with q of two bytes. -/
theorem test_transport_error :
    onNext (step (sending { quiet with chErr := true, errSent := 2 }
        [0x1F, 0x28, 0x66, 0x11, 0x08, 0x00, 0x01, 0x00, 0x01] 4 .flush [0x08, 0x00, 0x01, 0x00]))
      (fun s => decide (s.result = .transportError ∧ s.seq = [] ∧ s.wire = [0x08, 0x00] ∧ s.outbuf = [] ∧
        s.txPhase = .idle ∧ s.trace = [.error .flush])) = true := by decide

/-- 40_transport.md section 5: step 11 writes the last, short chunk. -/
theorem test_short_chunk :
    onNext (step (sending quiet [0xA0, 0xA1, 0xA2, 0xA3, 0xA4, 0xA5, 0xA6, 0xA7, 0xA8, 0xA9] 8 .write []))
      (fun s => decide (s.outbuf = [0xA8, 0xA9] ∧ s.txOff = 8 ∧ s.txPhase = .pollPost)) = true := by decide

/-- 2.1: the early drain of two bytes. -/
theorem test_early_drain :
    onNext (step (sending { quiet with drain := 2 } [0x11, 0x22, 0x33, 0x44] 0 .pollPost [0x11, 0x22, 0x33, 0x44]))
      (fun s => decide (s.wire = [0x11, 0x22] ∧ s.outbuf = [0x33, 0x44] ∧ s.txPhase = .pollPost)) = true := by
  decide

/-! ## Witnesses: values that meet the hypotheses of each obligation, clause by clause -/

/-- `cfg` with the default form of BOOT_SEQ. -/
def cfgBoot : Config := { cfg with bootSeq := [.setBrightness 128] }

/-- `cfg` with the other IDLE_ORDER. -/
def cfgBefore : Config := { cfg with idleOrder := .beforeTransmit }

/-- A block with an operation on the host port. -/
def hosting (i : Inputs) (cmd : HostCommand) : State := { idleBlock i with host := [cmd] }

/-- Inputs at which the channel is closed, the link not ready, or the channel fails. -/
def closed : Inputs := { quiet with chOpen := false }
def notReady : Inputs := { quiet with ready := false }
def failing : Inputs := { quiet with chErr := true }

/-- A block that will compare with a previous frame. -/
def comparing (c : Config) (p : Bitmap) : State := { idleBlock quiet with cfg := c, prev := some p }

/-- The hypotheses on SEQ and on the host's moves that the witnesses below share. -/
theorem small_blocks (i : Inputs) (l : List MicroOp) (pkt : Bytes) (off : Nat) (ph : TxPhase) (out : Bytes)
    (st : Idle) (t0 : Option Time) (n : Nat) (b : Bool) (c : Config) (p : Bitmap) :
    (busyBlock i l).seq = l ∧ (sending i pkt off ph out).seq = [.tx pkt, .done .ok] ∧
    (idling i st t0 n b).seq = [.idleStep b, .done .noChange] ∧ (comparing c p).seq = [] ∧
    (comparing c p).inp.chOpen = true ∧ (comparing c p).prev = some p ∧ (comparing c p).cfg = c :=
  ⟨rfl, rfl, rfl, rfl, rfl, rfl, rfl⟩

/-- In the middle of the sleep packet of a sleep edge, its first chunk half drained. -/
def midSleep : State :=
  { idling quiet .countingEmpty (some 5) 3 true with
    prev := some zero
    seq := [.tx cfg.opcSleep, .idleCommit .asleep, .done .noChange]
    txPkt := cfg.opcSleep
    txPhase := .pollPost
    outbuf := [0x61, 0x40] }

theorem midSleep_inv : BlockInv midSleep where
  legal := by decide
  prevOk := by rintro p ⟨⟩; decide
  idleRegs := ⟨by decide, by decide, by decide, by rintro m ⟨⟩⟩
  done := by decide
  commits := by decide
  frames := by rintro f h; simp [midSleep] at h
  txRegs := ⟨rfl, by decide, ⟨[0x1F, 0x28], rfl⟩⟩
  hostOk := by rintro c ⟨⟩

/-- An operation with an expansion, one that violates its contract, and the default form of BOOT_SEQ. -/
theorem witness_BootSequenceIsInstalledAtReset :
    bootOne cfg .clear = some [.tx [0x0C], .done .ok] ∧
    ((idleBlock quiet).seq = [] ∧ (idleBlock quiet).inp.chOpen = true ∧ (idleBlock quiet).prev = none ∧
      (∀ b, Instr.clear ≠ .idleStep b) ∧ ∀ b, Instr.setBrightness 257 ≠ .idleStep b) ∧
    bootOne (idleBlock quiet).cfg .clear = some [.tx [0x0C], .done .ok] ∧
    bootOne (idleBlock quiet).cfg (.setBrightness 257) = none ∧
    cfgBoot.bootSeq = [.setBrightness cfgBoot.initialBrightness] ∧ cfgBoot.initialBrightness ≤ cfgBoot.levelDen := by
  decide

theorem witness_StartedBlocksMeetInvariant :
    cfgBoot.Legal ∧ bootLegal cfgBoot ∧ ∀ cmd ∈ [bareCommand 11, bareCommand 0], cmd.selects = true :=
  ⟨by decide, by unfold bootLegal; decide, by decide⟩

theorem witness_StepKeepsInvariant : BlockInv midSleep ∧ ∃ t, step midSleep = .next t := ⟨midSleep_inv, _, rfl⟩

theorem witness_InvariantGivesProgress : BlockInv midSleep := midSleep_inv

theorem witness_StepStopsOnlyForTheseReasons :
    step (hosting quiet (bareCommand 12)) = .refused .noSuchSelector ∧
    step (idling quiet .countingEmpty none 1 true) = .fault .firstEmptyTimeAbsent ∧
    step { hosting quiet { bareCommand 10 with bitmap := zero } with prev := some ⟨1, 8, []⟩ } =
      .fault .prevNotAFrame := ⟨rfl, rfl, rfl⟩

theorem witness_StepRunsTheDecodedOperation :
    ((hosting quiet (bareCommand 1)).drainDue = false ∧ (hosting quiet (bareCommand 1)).seq = [] ∧
      (hosting quiet (bareCommand 1)).host = [bareCommand 1] ∧ (hosting quiet (bareCommand 1)).inp.chOpen = true ∧
      decodeCommand (bareCommand 1) = .ok .clear) ∧
    (idling quiet .awake none 0 true).drainDue = false ∧
    (idling quiet .awake none 0 true).seq = [.idleStep true, .done .noChange] := by decide

theorem witness_PlacedTableWordRunsNext : decodeTableWord 8 0x0C = some .clear := by decide

theorem witness_IdleBlockDoesNothing :
    ((idleBlock quiet).drainDue = false ∧ (idleBlock quiet).seq = [] ∧ (idleBlock quiet).host = []) ∧
    ((hosting closed (bareCommand 1)).drainDue = false ∧ (hosting closed (bareCommand 1)).seq = [] ∧
      (hosting closed (bareCommand 1)).inp.chOpen = false) ∧
    (busyBlock quiet [.done .ok]).drainDue = false ∧ (busyBlock quiet [.done .ok]).seq = [.done .ok] := by decide

theorem witness_DoneSetPrevAndIdleCommitEffects :
    ((busyBlock quiet [.done .noChange]).drainDue = false ∧
      (busyBlock quiet [.done .noChange]).seq = [.done .noChange]) ∧
    ((busyBlock quiet [.setPrev zero, .done .ok]).drainDue = false ∧
      (busyBlock quiet [.setPrev zero, .done .ok]).seq = [.setPrev zero, .done .ok]) ∧
    ((busyBlock quiet [.idleCommit .asleep, .done .ok]).drainDue = false ∧
      (busyBlock quiet [.idleCommit .asleep, .done .ok]).seq = [.idleCommit .asleep, .done .ok]) ∧
    (busyBlock quiet [.idleCommit .awake, .done .ok]).drainDue = false ∧
      (busyBlock quiet [.idleCommit .awake, .done .ok]).seq = [.idleCommit .awake, .done .ok] :=
  ⟨⟨rfl, rfl⟩, ⟨rfl, rfl⟩, ⟨rfl, rfl⟩, rfl, rfl⟩

theorem witness_SelectorsTwelveToFifteenAreRefused :
    12 ≤ (bareCommand 12).selector.val ∧ 12 ≤ (bareCommand 15).selector.val ∧
    (hosting quiet (bareCommand 15)).drainDue = false ∧ (hosting quiet (bareCommand 15)).seq = [] ∧
    (hosting quiet (bareCommand 15)).host = [bareCommand 15] ∧
    (hosting quiet (bareCommand 15)).inp.chOpen = true := by decide

theorem witness_NoIssueWhileBusyOrClosed :
    ((∀ b, Instr.clear ≠ .idleStep b) ∧ (busyBlock quiet [.done .ok]).busy = true) ∧
    ((idleBlock closed).busy = false ∧ (idleBlock closed).inp.chOpen = false) ∧
    (idling quiet .awake none 0 true).seq.head? ≠ some (.idleStep false) := by decide

theorem witness_PrevChangesOnlyBySetPrevOrDiscard :
    (∃ t, step (busyBlock quiet [.setPrev zero, .done .ok]) = .next t ∧
      t.prev ≠ (busyBlock quiet [.setPrev zero, .done .ok]).prev) ∧
    ∃ t, step { hosting quiet (bareCommand 11) with prev := some zero } = .next t ∧ t.prev ≠ some zero :=
  ⟨⟨_, rfl, nofun⟩, _, rfl, nofun⟩

theorem witness_IdleRegistersChangeOnlyByIdleMachine :
    (∃ t, step (idling quiet .awake none 0 true) = .next t ∧ t.idle ≠ .awake) ∧
    ∃ t, step { busyBlock quiet [.idleCommit .awake, .done .ok] with idle := .asleep } = .next t ∧
      t.idle ≠ .asleep :=
  ⟨⟨_, rfl, nofun⟩, _, rfl, nofun⟩

theorem witness_ResultChangesOnlyAtTheEnd :
    (∃ t, step (busyBlock quiet [.done .noChange]) = .next t ∧ t.result ≠ .ok) ∧
    (∃ t, step (sending failing [7] 0 .write []) = .next t ∧ t.result ≠ .ok) ∧
    ∃ t, step (hosting quiet { bareCommand 2 with arg0 := -1 }) = .next t ∧ t.result ≠ .ok :=
  ⟨⟨_, rfl, nofun⟩, ⟨_, rfl, nofun⟩, _, rfl, nofun⟩

theorem witness_WireAndTraceOnlyGrow :
    ∃ t, step (sending quiet [7] 0 .flush [7]) = .next t ∧ t.wire = [7] ∧ t.trace = [.flush] := ⟨_, rfl, rfl, rfl⟩

theorem witness_StepKeepsParameters : ∃ t, step (hosting quiet (bareCommand 1)) = .next t := ⟨_, rfl⟩

theorem witness_ContractViolationChangesOnlyResult :
    (∃ t, exec (.moveCursor (-1) 0) (idleBlock quiet) = .next t ∧ t.busy = false) ∧
    ∃ t, exec (.moveCursor 0 0) (idleBlock quiet) = .next t ∧ t.busy = true := ⟨⟨_, rfl, rfl⟩, _, rfl, rfl⟩

theorem witness_TxStartLoadsThePacket :
    ((busyBlock quiet [.tx [], .done .ok]).drainDue = false ∧ (busyBlock quiet [.tx [], .done .ok]).txPhase = .idle) ∧
    (busyBlock quiet [.tx [7], .done .ok]).drainDue = false ∧
    (busyBlock quiet [.tx [7], .done .ok]).txPhase = .idle ∧ ([7] : Bytes) ≠ [] := by decide

theorem witness_PollSamplesReadyOnce :
    ((sending quiet [7] 0 .pollPre []).drainDue = false ∧ (sending quiet [7] 0 .pollPre []).txPhase = .pollPre ∧
      (sending quiet [7] 0 .pollPre []).inp.ready = true) ∧
    ((sending quiet [7] 0 .pollPost [7]).drainDue = false ∧
      (sending quiet [7] 0 .pollPost [7]).txPhase = .pollPost ∧
      (sending quiet [7] 0 .pollPost [7]).inp.ready = true) ∧
    (sending notReady [7] 0 .pollPre []).inp.ready = false ∧
    (sending notReady [7] 0 .pollPost [7]).inp.ready = false := by decide

theorem witness_WriteStepAppendsTheChunk :
    (sending quiet [7] 0 .write []).drainDue = false ∧ (sending quiet [7] 0 .write []).seq = [.tx [7], .done .ok] ∧
    (sending quiet [7] 0 .write []).txPhase = .write ∧ (sending quiet [7] 0 .write []).inp.chErr = false := by decide

/-- One byte beyond the chunk, and a packet of exactly one chunk. -/
theorem witness_FlushStepSendsAndAdvances :
    ((sending quiet [1, 2, 3, 4, 5] 0 .flush [1, 2, 3, 4]).drainDue = false ∧
      (sending quiet [1, 2, 3, 4, 5] 0 .flush [1, 2, 3, 4]).inp.chErr = false ∧ 0 + cfg.chunk < 5) ∧
    (sending quiet [1, 2, 3, 4] 0 .flush [1, 2, 3, 4]).drainDue = false ∧
    (sending quiet [1, 2, 3, 4] 0 .flush [1, 2, 3, 4]).inp.chErr = false ∧ 4 ≤ 0 + cfg.chunk := by decide

theorem witness_TransportErrorEndsTheOperation :
    ((sending failing [7] 0 .write []).drainDue = false ∧ (sending failing [7] 0 .write []).inp.chErr = true ∧
      (sending failing [7] 0 .write []).txPhase = .write) ∧
    (sending failing [7] 0 .flush [7]).drainDue = false ∧ (sending failing [7] 0 .flush [7]).inp.chErr = true ∧
    (sending failing [7] 0 .flush [7]).txPhase = .flush := by decide

theorem witness_DrainMovesTheFrontOfOutbuf :
    0 < (sending { quiet with drain := 1 } [7] 0 .flush [7]).inp.drain ∧
    (sending { quiet with drain := 1 } [7] 0 .flush [7]).inp.drain ≤
      (sending { quiet with drain := 1 } [7] 0 .flush [7]).outbuf.length := by decide

/-- The host can issue: the hypotheses of the statements about the operations of the host. -/
theorem canIssue_quiet : (idleBlock quiet).seq = [] ∧ (idleBlock quiet).inp.chOpen = true := by decide

theorem witness_WriteInstallsThePacket : (idleBlock quiet).seq = [] ∧ (idleBlock quiet).inp.chOpen = true :=
  canIssue_quiet

theorem witness_ChunksArePacketCutEveryN : 1 ≤ 4 ∧ (chunks 4 [1, 2, 3, 4, 5])[0]? = some [1, 2, 3, 4] ∧
    (chunks 4 [1, 2, 3, 4, 5])[1]? = some [5] ∧ (chunks 4 [])[0]? = none ∧ (chunks 1 [1])[0]? = some [1] := by decide

/-- The five bytes of a sleep packet after their first chunk was written and half drained. -/
theorem witness_TxSendsItsPacketInOrder :
    1 ≤ midSleep.cfg.chunk ∧
    TxProgress [] [] cfg.opcSleep [.idleCommit .asleep, .done .noChange]
      { midSleep with wire := [0x1F, 0x28], trace := [.poll false, .poll true, .write [0x1F, 0x28, 0x61, 0x40]] } ∧
    ∃ t, step { midSleep with
      wire := [0x1F, 0x28], trace := [.poll false, .poll true, .write [0x1F, 0x28, 0x61, 0x40]] } = .next t :=
  ⟨by decide, ⟨rfl, ⟨rfl, by decide, ⟨[0x1F, 0x28], rfl⟩⟩, by decide, by decide, by decide⟩, _, rfl⟩

theorem witness_UnstalledPacketTakesFourStepsAChunk :
    1 ≤ cfg.chunk ∧ ([7] : Bytes) ≠ [] ∧
    (busyBlock quiet [.tx [7], .done .ok]).txPhase = .idle ∧
    txRegsOk { busyBlock quiet [.tx [7], .done .ok] with inputs := List.replicate 5 quiet } ∧
    1 + 4 * ((1 + cfg.chunk - 1) / cfg.chunk) ≤ (List.replicate 5 quiet).length ∧
    (List.replicate 5 quiet).all smooth = true := ⟨by decide, by decide, rfl, ⟨rfl, rfl, rfl⟩, by decide, by decide⟩

theorem witness_LinkNeverReadyWaitsForEver :
    ∀ k u, k < 2 → Sys2Proof.core.run k { sending notReady [7] 0 .pollPre [] with inputs := [notReady, notReady] } =
      .next u → (State.inp u).ready = false := by
  intro k u hk h
  interval_cases k <;> cases h <;> rfl

/-- Every branch: a bad height, a wrong bitmap, a packing. -/
theorem witness_PackReturnsPackedBytes : (idleBlock quiet).seq = [] ∧ (idleBlock quiet).inp.chOpen = true ∧
    (12 : Int) % 8 ≠ 0 ∧ (⟨4, 8, []⟩ : Bitmap).pix.length ≠ 4 * 8 ∧ (⟨0, 8, []⟩ : Bitmap).pix.length = 0 * 8 := by
  decide

theorem witness_PackedBitsAreTheSetPixels : 32 % 8 = 0 ∧ zero.w = 4 ∧ zero.h = 32 ∧ zero.pix.length = 4 * 32 := by
  decide

theorem witness_SamePackingIffSameSetPixels :
    sized (bitmapOf 1 8 [(0, 7)]) (1 : Nat) (8 : Nat) = true ∧ sized ⟨1, 8, [0, 0, 0, 0, 0, 0, 0, 3]⟩ (1 : Nat) (8 : Nat) =
      true := by decide

theorem witness_PackOfBlankAndFullBitmaps :
    (sized (bitmapOf 1 8 []) (1 : Nat) (8 : Nat) = true ∧ blank (bitmapOf 1 8 []) = true) ∧
    (sized ⟨1, 8, List.replicate 8 1⟩ (1 : Nat) (8 : Nat) = true ∧ (List.replicate 8 1).all isSet = true) ∧
    sized ⟨0, 8, []⟩ (0 : Nat) (8 : Nat) = true ∧ sized ⟨5, 0, []⟩ (5 : Nat) (0 : Nat) = true := by decide

theorem witness_FixedPacketOperations : (idleBlock quiet).seq = [] ∧ (idleBlock quiet).inp.chOpen = true :=
  canIssue_quiet

/-- Both branches: the largest legal operands, and one beyond each. -/
theorem witness_MoveCursorSendsColumnAndPage : (idleBlock quiet).seq = [] ∧ (idleBlock quiet).inp.chOpen = true ∧
    (524287 : Int) / 8 ≤ 65535 ∧ ¬ (524288 : Int) / 8 ≤ 65535 := by decide

theorem witness_SetBrightnessSendsClampedEighths : (idleBlock quiet).seq = [] ∧ (idleBlock quiet).inp.chOpen = true ∧
    (256 : Int) ≤ cfg.levelDen ∧ ¬ (257 : Int) ≤ cfg.levelDen := by decide

theorem witness_BrightnessByteIsOneToEight : 1 ≤ cfg.levelDen ∧ 256 ≤ cfg.levelDen ∧
    roundQ cfg.roundTies (8 * 256) cfg.levelDen ≠ 0 ∧ roundQ cfg.roundTies (8 * 0) cfg.levelDen = 0 ∧
    cfg.roundTies = .halfUp ∧ ({ cfg with roundTies := .halfEven } : Config).roundTies = .halfEven := by decide

theorem witness_RoundIsNearestWithTieRule : 1 ≤ 8 ∧ 2 * (4 % 8) = 8 ∧ 2 * (12 % 8) = 8 := by decide

theorem witness_LittleEndianFieldHoldsItsValue : 0 ≤ 65535 ∧ 300 ≤ 65535 ∧ 65535 ≤ 65535 := by decide

/-- Every branch: a bad height, a wrong bitmap, a width beyond its field, an image. -/
theorem witness_ShowImageSendsHeaderAndPackedPixels :
    (idleBlock quiet).seq = [] ∧ (idleBlock quiet).inp.chOpen = true ∧
    violationShowImage ⟨4, 12, []⟩ 4 12 = some .heightNotMult8 ∧
    violationShowImage ⟨4, 8, []⟩ 4 8 = some .bitmapSize ∧
    violationShowImage ⟨65536, 0, []⟩ 65536 0 = some .fieldRange ∧
    violationShowImage ⟨65535, 0, []⟩ 65535 0 = none := by decide

theorem witness_ScrollSendsAddressTimesSpeed :
    (idleBlock quiet).seq = [] ∧ (idleBlock quiet).inp.chOpen = true ∧
    (16383 : Int) * cfg.dispH / 8 + 31 / 8 ≤ 65535 ∧ ¬ (16384 : Int) * cfg.dispH / 8 + 0 / 8 ≤ 65535 := by decide

theorem witness_UpdateOfWrongSizeIsAViolation :
    (idleBlock quiet).seq = [] ∧ (idleBlock quiet).inp.chOpen = true ∧
    ¬ ((bitmapOf 4 24 []).w = cfg.dispW ∧ (bitmapOf 4 24 []).h = cfg.dispH ∧
      (bitmapOf 4 24 []).pix.length = cfg.dispW * cfg.dispH) := by decide

/-- Both orders; the two packets of the statement are names for the values its equations give. -/
theorem witness_FirstUpdateSendsTheWholeFrame :
    (idleBlock quiet).seq = [] ∧ (idleBlock quiet).inp.chOpen = true ∧ (idleBlock quiet).prev = none ∧
    isFrame cfg zero = true ∧ cfg.idleOrder = .afterTransmit ∧
    isFrame cfgBefore zero = true ∧ cfgBefore.idleOrder = .beforeTransmit := by decide

/-- Two frames that show the same pixels at different intensities. -/
theorem witness_IdenticalFrameSendsNothing :
    isFrame { cfg with dispW := 1, dispH := 8 } ⟨1, 8, [0, 0, 0, 0, 0, 0, 0, 1]⟩ = true ∧
    isFrame { cfg with dispW := 1, dispH := 8 } ⟨1, 8, [0, 0, 0, 0, 0, 0, 0, 2]⟩ = true ∧
    (∀ x < 1, ∀ y < 8, isSet (pixel ⟨1, 8, [0, 0, 0, 0, 0, 0, 0, 1]⟩ x y) =
      isSet (pixel ⟨1, 8, [0, 0, 0, 0, 0, 0, 0, 2]⟩ x y)) := by decide

theorem witness_ChangeInRowZeroAloneSendsNothing :
    isFrame { cfg with dispW := 1, dispH := 8 } (bitmapOf 1 8 [(0, 0)]) = true ∧
    isFrame { cfg with dispW := 1, dispH := 8 } (bitmapOf 1 8 []) = true ∧ cfg.revScanLow = 1 ∧
    (∀ x < 1, ∀ y < 8, 1 ≤ y → isSet (pixel (bitmapOf 1 8 [(0, 0)]) x y) = isSet (pixel (bitmapOf 1 8 []) x y)) := by
  decide

/-- Rows 4 and 31: the start is rounded up to 8, the end to 32; and both orders. The two packets of the statement
are names for the values its equations give. -/
theorem witness_ChangedFrameSendsItsBand :
    isFrame cfg (bitmapOf 4 32 [(1, 4), (1, 31)]) = true ∧ isFrame cfg zero = true ∧ cfg.dispH % 8 = 0 ∧
    rawStart cfg (bitmapOf 4 32 [(1, 4), (1, 31)]) zero = some 4 ∧
    rawEnd cfg (bitmapOf 4 32 [(1, 4), (1, 31)]) zero = some 31 ∧ 8 = roundQ cfg.roundTies 4 8 * 8 ∧
    32 = (31 + 7) / 8 * 8 ∧ cfg.idleOrder = .afterTransmit ∧ cfgBefore.idleOrder = .beforeTransmit := by decide

theorem witness_BandIsAlignedAndInside :
    cfg.dispH % 8 = 0 ∧ band cfg (bitmapOf 4 32 [(1, 8)]) zero = some (8, 8) := by decide

theorem witness_DiscardPrevForgetsTheFrame : (idleBlock quiet).seq = [] ∧ (idleBlock quiet).inp.chOpen = true :=
  canIssue_quiet

theorem witness_IdleStepInAwake :
    (idling quiet .awake none 0 false).idle = .awake ∧
    (idling quiet .awake none 0 false).seq = [.idleStep false, .done .noChange] ∧
    (idling quiet .awake none 0 true).seq = [.idleStep true, .done .noChange] := by decide

/-- At exactly the delay, and one tick before it. -/
theorem witness_IdleStepInCountingEmpty :
    (idling quiet .countingEmpty (some 5) 2 true).idle = .countingEmpty ∧
    (idling quiet .countingEmpty (some 5) 2 true).firstEmptyTime = some 5 ∧
    (idling quiet .countingEmpty (some 5) 2 true).seq = [.idleStep true, .done .noChange] ∧
    (idling quiet .countingEmpty (some 5) 2 false).seq = [.idleStep false, .done .noChange] ∧
    delayReached cfg (65 - 5) = true ∧ delayReached cfg (64 - 5) = false ∧ cfg.cntMax = none ∧
    ({ cfg with cntMax := some 3 } : Config).cntMax = some 3 := by decide

theorem witness_IdleStepInAsleep :
    (idling quiet .asleep (some 5) 3 true).idle = .asleep ∧
    (idling quiet .asleep (some 5) 3 true).seq = [.idleStep true, .done .noChange] ∧
    (idling quiet .asleep (some 5) 3 false).seq = [.idleStep false, .done .noChange] := by decide

/-- A step that keeps off ASLEEP; and three steps from COUNTING_EMPTY with the delay reached: the empty sleep packet of no legal block keeps the run
short, and the hypotheses ask for no legal one. -/
theorem witness_AsleepOnlyAfterTheDelay :
    ((idleBlock quiet).idle ≠ .asleep ∧ MicroOp.idleCommit .asleep ∉ (idleBlock quiet).seq ∧
      ∃ t, step (idleBlock quiet) = .next t) ∧
    ∃ s t, s.idle ≠ .asleep ∧ MicroOp.idleCommit .asleep ∉ s.seq ∧
      Sys2Proof.core.run 3 s = .next t ∧ State.idle t = .asleep :=
  ⟨⟨by decide, by decide, _, rfl⟩, { idling { quiet with now := 65 } .countingEmpty (some 5) 2 true with
      cfg := { cfg with opcSleep := [] }, inputs := [{ quiet with now := 65 }, quiet, quiet] },
    _, by decide, by decide, rfl, rfl⟩

/-- Each of the eight kinds has a packet, at a boundary of its operands. -/
theorem witness_PacketsDecodeToTheirOperations : cfg.Legal ∧ cfg.PrefixFree ∧
    encode cfg (.moveCursor 65535 524287) = some [0x1F, 0x24, 0xFF, 0xFF, 0xFF, 0xFF] ∧
    encode cfg (.setBrightness 256) = some [0x1F, 0x58, 0x08] ∧
    encode cfg (.showImage ⟨0, 8, []⟩ 0 8) = some [0x1F, 0x28, 0x66, 0x11, 0x00, 0x00, 0x01, 0x00, 0x01] ∧
    encode cfg (.scroll 0 7 65535 255) = some [0x1F, 0x28, 0x61, 0x10, 0x00, 0x00, 0xFF, 0xFF, 0xFF] ∧
    [.reset, .clear, .sleep, .wake].all (fun i => (encode cfg i).isSome) = true := by decide

theorem witness_WireIsCutIntoItsPackets : cfg.Legal ∧ cfg.PrefixFree ∧
    ∀ x ∈ [(Instr.clear, ([0x0C] : Bytes)), (Instr.reset, [0x1B, 0x40])], encode cfg x.1 = some x.2 := by decide

theorem witness_CommandPortKeepsEveryOperand : (∀ b, Instr.clear ≠ .idleStep b) ∧
    [Instr.reset, .clear, .moveCursor 1 2, .setBrightness 1, .showImage ⟨1, 8, []⟩ 1 8, .scroll 1 2 3 4, .sleep, .wake,
      .pack ⟨1, 8, []⟩ 1 8, .write [7], .update ⟨1, 8, []⟩, .discardPrev].all
        (fun i => (encodeCommand i).isSome) = true ∧
    decodeCommand (bareCommand 0) = .ok .reset ∧ decodeCommand (bareCommand 11) = .ok .discardPrev := by decide

end Sys2Proof.Tests
end

section
/-! # The family of 00_scope: reset, boot, the invariant of the block, rounding

What an issue installs is described once (`expansionOf`, `Installable`); the transport registers are put in the two
forms they can have (`TxQuiet`, `TxSending`); then each move of `step_cases` keeps `BlockInv`. -/

namespace Sys2Proof.Machine

variable {c : Config} {s t : State} {i : Instr} {prev : Option Bitmap} {l rest : List MicroOp}

/-! ## What an issue installs -/

/-- A micro-operation of the body of an expansion: one that stands before its DONE. -/
def MicroOp.InBody (c : Config) : MicroOp → Prop
  | .tx _ => True
  | .setPrev f => isFrame c f = true
  | .idleStep _ => True
  | .idleCommit _ => False
  | .done _ => False

/-- The form of every list the host's issue or the boot sequence puts in SEQ (R20). -/
def Installable (c : Config) (l : List MicroOp) : Prop :=
  ∃ body r, (∀ m ∈ body, m.InBody c) ∧ l = body ++ [.done r]

theorem MicroOp.InBody.isDone_eq_false {m : MicroOp} (h : m.InBody c) : m.isDone = false := by
  cases m with
  | done r => exact h.elim
  | _ => rfl

theorem MicroOp.InBody.isCommit_eq_false {m : MicroOp} (h : m.InBody c) : m.isCommit = false := by
  cases m with
  | idleCommit e => exact h.elim
  | _ => rfl

/-- Where a DONE is not the head, it is the last of the rest, which is not empty. -/
theorem doneLast_cons {m : MicroOp} (hm : m.isDone = false) :
    doneLast (m :: l) = true ↔ l ≠ [] ∧ doneLast l = true := by
  cases l <;> simp [doneLast, hm]

theorem doneLast_tail {m : MicroOp} (h : doneLast (m :: l) = true) : doneLast l = true := by
  cases l with
  | nil => rfl
  | cons n l => exact (Bool.and_eq_true_iff.1 h).2

theorem Installable.doneLast_eq_true (h : Installable c l) : doneLast l = true := by
  obtain ⟨body, r, hb, rfl⟩ := h
  induction body with
  | nil => rfl
  | cons m body ih =>
    obtain ⟨hm, hb⟩ := List.forall_mem_cons.1 hb
    exact (doneLast_cons hm.isDone_eq_false).2 ⟨by simp, ih hb⟩

theorem Installable.noCommit_eq_true (h : Installable c l) : noCommit l = true := by
  obtain ⟨body, r, hb, rfl⟩ := h
  have hbody : ∀ m ∈ body, m.isCommit = false := fun m hm => (hb m hm).isCommit_eq_false
  simpa [noCommit, MicroOp.isCommit] using hbody

theorem Installable.isFrame_of_setPrev_mem (h : Installable c l) (f : Bitmap) (hf : MicroOp.setPrev f ∈ l) :
    isFrame c f = true := by
  obtain ⟨body, r, hb, rfl⟩ := h
  exact hb _ (by simpa using hf)

theorem installable_sendOne (pkt : Bytes) : Installable c (sendOne pkt) :=
  ⟨[.tx pkt], .ok, by simp [MicroOp.InBody], rfl⟩

theorem installable_done (r : Result) : Installable c [.done r] := ⟨[], r, by simp, rfl⟩

/-- The packets and the store of an UPDATE stand in the body of its expansion (R121). -/
theorem inBody_of_mem_updateBody {f : Bitmap} (hf : isFrame c f = true) {m : MicroOp}
    (hm : m ∈ (updateBody c prev f).1) : m.InBody c := by
  have hband : ∀ a e, m ∈ sendBand c f a e → m.InBody c := by
    intro a e h
    simp only [sendBand, List.mem_cons, List.not_mem_nil, or_false] at h
    obtain rfl | rfl | rfl := h
    · trivial
    · trivial
    · exact hf
  unfold updateBody at hm
  split at hm
  · exact hband _ _ hm
  · split at hm
    · cases hm
    · exact hband _ _ hm

/-- Wherever IDLE_ORDER puts the idle step, the list has the installable form (R127). -/
theorem installable_withIdleStep {body : List MicroOp} (hb : ∀ m ∈ body, m.InBody c) (b : Bool) (r : Result) :
    Installable c (withIdleStep c b body r) := by
  unfold withIdleStep
  split
  · refine ⟨body ++ [.idleStep b], r, ?_, by simp⟩
    simpa [List.forall_mem_append, or_imp, forall_and, MicroOp.InBody] using hb
  · refine ⟨.idleStep b :: body, r, ?_, rfl⟩
    simpa [MicroOp.InBody] using hb

theorem installable_of_expandUpdate {f : Bitmap} (h : expandUpdate c prev f = .ok l) : Installable c l := by
  obtain ⟨hv, rfl⟩ := checked_ok h
  have hf : isFrame c f = true := by simpa [violationUpdate] using hv
  exact installable_withIdleStep (fun m hm => inBody_of_mem_updateBody hf hm) _ _

/-- The expansion the host's issue of an operation works with; none for IDLE_STEP, which the host cannot issue (R9). -/
def expansionOf (c : Config) (prev : Option Bitmap) : Instr → Option Expansion
  | .reset => some (expandReset c)
  | .clear => some (expandClear c)
  | .moveCursor x y => some (expandMoveCursor c x y)
  | .setBrightness l => some (expandSetBrightness c l)
  | .showImage b w h => some (expandShowImage c b w h)
  | .scroll x y t sp => some (expandScroll c x y t sp)
  | .sleep => some (expandSleep c)
  | .wake => some (expandWake c)
  | .pack b w h => some (expandPack b w h)
  | .write p => some (expandWrite p)
  | .update f => some (expandUpdate c prev f)
  | .discardPrev => some expandDiscardPrev
  | .idleStep _ => none

/-- PREV at the issue of an operation: DISCARD_PREV forgets it (R130). -/
def prevAtIssue (prev : Option Bitmap) : Instr → Option Bitmap
  | .discardPrev => none
  | _ => prev

/-- The state whose host's move the issue of an operation is. -/
def State.atIssue (s : State) (i : Instr) : State := { s with prev := prevAtIssue s.prev i }

theorem exists_expansionOf (hi : ∀ b, i ≠ .idleStep b) : ∃ e, expansionOf c prev i = some e := by
  cases i with
  | idleStep b => exact absurd rfl (hi b)
  | _ => exact ⟨_, rfl⟩

theorem prevAtIssue_mem {p : Bitmap} (h : p ∈ prevAtIssue prev i) : p ∈ prev := by
  cases i with
  | discardPrev => cases h
  | _ => exact h

/-- A host operation is the issue of its expansion, unless an UPDATE finds a PREV that is no frame. -/
theorem exec_eq_issue {e : Expansion} (he : expansionOf s.cfg s.prev i = some e)
    (hu : ∀ f, s.prevUnreadable f = false) :
    exec i s = issue (s.atIssue i) e := by
  cases i with
  | idleStep b => cases he
  | update f =>
    cases he
    exact exec_update s f (hu f)
  | _ =>
    cases he
    rfl

theorem bootOne_eq_expansionOf (c : Config) (i : Instr) :
    bootOne c i = (expansionOf c none i).bind Except.toOption := by
  cases i <;> rfl

theorem installable_of_expansionOf (h : expansionOf c prev i = some (.ok l)) : Installable c l := by
  cases i with
  | idleStep b => cases h
  | update f => exact installable_of_expandUpdate (Option.some.inj h)
  | discardPrev =>
    cases h
    exact installable_done _
  | pack b w h' =>
    obtain ⟨-, rfl⟩ := checked_ok (Option.some.inj h)
    exact installable_done _
  | moveCursor | setBrightness | showImage | scroll =>
    obtain ⟨-, rfl⟩ := checked_ok (Option.some.inj h)
    exact installable_sendOne _
  | reset | clear | sleep | wake | write =>
    cases h
    exact installable_sendOne _

theorem prevUnreadable_of_prevOk (h : PrevOk s) (f : Bitmap) : s.prevUnreadable f = false := by
  have : s.prev.all (isFrame s.cfg) = true := (Option.all_eq_true _ _).2 h
  simp [State.prevUnreadable, this]

theorem prevUnreadable_of_not_canIssue (h : s.canIssue = false) (f : Bitmap) : s.prevUnreadable f = false := by
  simp [State.prevUnreadable, h]

/-! ## The boot sequence (R191) -/

theorem installable_of_bootOne (h : bootOne c i = some l) : Installable c l := by
  rw [bootOne_eq_expansionOf, Option.bind_eq_some_iff] at h
  obtain ⟨e, he, hl⟩ := h
  cases e with
  | error k => cases hl
  | ok l' =>
    cases hl
    exact installable_of_expansionOf he

/-- A DONE taken off the first expansion leaves its body before the rest. -/
theorem Installable.dropLast_append {l' : List MicroOp} (h : Installable c l) (h' : Installable c l') :
    Installable c (l.dropLast ++ l') := by
  obtain ⟨body, r, hb, rfl⟩ := h
  obtain ⟨body', r', hb', rfl⟩ := h'
  exact ⟨body ++ body', r', List.forall_mem_append.2 ⟨hb, hb'⟩, by simp⟩

theorem installable_bootExpansion {is : List Instr} (hne : is ≠ []) (h : ∀ i ∈ is, (bootOne c i).isSome = true) :
    Installable c (bootExpansion c is) := by
  have hone : ∀ i ∈ is, Installable c ((bootOne c i).getD []) := by
    intro i hi
    obtain ⟨l, hl⟩ := Option.isSome_iff_exists.1 (h i hi)
    simpa [hl] using installable_of_bootOne hl
  induction is with
  | nil => exact absurd rfl hne
  | cons i is ih =>
    obtain ⟨hi, his⟩ := List.forall_mem_cons.1 hone
    cases is with
    | nil => exact hi
    | cons j rest =>
      exact hi.dropLast_append (ih (by simp) (fun k hk => h k (List.mem_cons_of_mem _ hk)) his)

/-- A brightness within its bounds violates no contract (R99). -/
theorem expandSetBrightness_of_le {n : Nat} (h : n ≤ c.levelDen) :
    expandSetBrightness c n = .ok (sendOne (brightnessPacket c n)) := by
  have hv : violationSetBrightness c n = none := if_neg (by omega)
  simp [expandSetBrightness, hv]

theorem bootOne_setBrightness_of_le {n : Nat} (h : n ≤ c.levelDen) :
    bootOne c (.setBrightness n) = some (sendOne (brightnessPacket c n)) := by
  simp [bootOne, expandSetBrightness_of_le h, Except.toOption]

/-- The issue of an operation with PREV absent installs what the operation has in BOOT_SEQ, or violates its contract
where it has nothing there. -/
theorem exec_of_prev_none (hc : s.canIssue = true) (hp : s.prev = none) (hi : ∀ b, i ≠ .idleStep b) :
    (∀ l, bootOne s.cfg i = some l → exec i s = .next (s.install l)) ∧
    (bootOne s.cfg i = none → ∃ k, exec i s = .next (s.raiseContractViolation k)) := by
  obtain ⟨e, he⟩ := exists_expansionOf (c := s.cfg) (prev := none) hi
  have hprev : s.atIssue i = s := by
    have : prevAtIssue s.prev i = s.prev := by cases i <;> simp [prevAtIssue, hp]
    rw [State.atIssue, this]
  have hexec : exec i s = issue s e := by
    have hu := prevUnreadable_of_prevOk (s := s) (by simp [PrevOk, hp])
    rw [exec_eq_issue (hp ▸ he) hu, hprev]
  have hboot : bootOne s.cfg i = e.toOption := by rw [bootOne_eq_expansionOf, he]; rfl
  rw [hexec, hboot, issue_of_canIssue hc]
  cases e with
  | error k => exact ⟨by simp [Except.toOption], fun _ => ⟨k, rfl⟩⟩
  | ok l => exact ⟨fun l' hl => by cases hl; rfl, by simp [Except.toOption]⟩

/-- Settles O2: a host operation is the issue of its expansion (`exec_eq_issue`), and BOOT_SEQ has the same one. -/
theorem bootSequenceIsInstalledAtReset : Obligations.BootSequenceIsInstalledAtReset := by
  unfold Obligations.BootSequenceIsInstalledAtReset
  refine ⟨fun c => ⟨rfl, rfl⟩, ?_, ?_, ?_, fun _ _ => rfl, ?_, rfl⟩
  · intro c i l h
    simp [bootExpansion, h]
  · intro c i j rest l h
    simp [bootExpansion, h]
  · intro s i hs hopen hp hi
    exact exec_of_prev_none (canIssue_iff.2 ⟨hs, hopen⟩) hp hi
  · intro c hboot hle
    have hseq : (State.resetOf c).seq = sendOne (brightnessPacket c c.initialBrightness) := by
      simp [State.resetOf, hboot, bootExpansion, bootOne_setBrightness_of_le hle]
    exact ⟨hseq, by simp [State.busy, hseq, sendOne]⟩

/-- Settles O13: a host operation is an issue, and an issue without the host's move is refused by name. -/
theorem noIssueWhileBusyOrClosed : Obligations.NoIssueWhileBusyOrClosed := by
  unfold Obligations.NoIssueWhileBusyOrClosed
  refine ⟨fun s i hi hbusy => ?_, fun s i hi hbusy hclosed => ?_, fun s b hb => if_neg hb⟩
  · obtain ⟨e, he⟩ := exists_expansionOf (c := s.cfg) (prev := s.prev) hi
    have hu := prevUnreadable_of_not_canIssue (s := s) (by simp [State.canIssue, hbusy])
    have hs : s.seq ≠ [] := by simpa [State.busy] using hbusy
    exact (exec_eq_issue he hu).trans (issue_busy (s := s.atIssue i) hs e)
  · obtain ⟨e, he⟩ := exists_expansionOf (c := s.cfg) (prev := s.prev) hi
    have hu := prevUnreadable_of_not_canIssue (s := s) (by simp [State.canIssue, hclosed])
    have hs : s.seq = [] := by simpa [State.busy] using hbusy
    exact (exec_eq_issue he hu).trans (issue_closed (s := s.atIssue i) hs hclosed e)

/-! ## Who writes the parameters (R6) -/

/-- No command decodes to IDLE_STEP (R9, R62). -/
theorem decodeCommand_ne_idleStep {cmd : HostCommand} (h : decodeCommand cmd = .ok i) (b : Bool) :
    i ≠ .idleStep b := by
  rintro rfl
  unfold decodeCommand at h
  split at h <;> cases h

theorem exec_cfg (hi : ∀ b, i ≠ .idleStep b) (h : exec i s = .next t) : t.cfg = s.cfg := by
  obtain ⟨-, ⟨k, rfl⟩ | ⟨l, -, rfl⟩ | ⟨-, rfl⟩⟩ := exec_host_cases hi h <;> rfl

theorem performTx_cfg (pkt : Bytes) (s : State) : (performTx pkt s).cfg = s.cfg := by
  obtain ⟨-, -, h⟩ | ⟨-, -, h⟩ | ⟨-, h⟩ | ⟨-, -, h⟩ | ⟨-, -, h⟩ | ⟨-, h⟩ | ⟨-, -, h⟩ | ⟨-, -, -, h⟩ |
    ⟨-, -, -, h⟩ := performTx_cases pkt s <;> rw [h] <;> rfl

theorem idleStepEffect_cfg {b : Bool} (h : idleStepEffect b s = .next t) : t.cfg = s.cfg := by
  obtain ⟨-, -, rfl⟩ | ⟨-, -, rfl⟩ | ⟨_, -, -, -, -, rfl⟩ | ⟨_, -, -, -, -, rfl⟩ | ⟨-, -, rfl⟩ | ⟨-, -, rfl⟩ |
    ⟨-, -, rfl⟩ := idleStepEffect_cases h <;> rfl

theorem perform_cfg {m : MicroOp} (h : perform m s = .next t) : t.cfg = s.cfg := by
  obtain ⟨pkt, -, rfl⟩ | ⟨f, -, rfl⟩ | ⟨b, -, hb⟩ | ⟨e, -, rfl⟩ | ⟨r, -, rfl⟩ := perform_cases h
  · exact performTx_cfg pkt s
  · rfl
  · exact idleStepEffect_cfg hb
  · cases e <;> rfl
  · rfl

/-- Settles O18, by the moves a step can make. -/
theorem stepKeepsParameters : Obligations.StepKeepsParameters := by
  unfold Obligations.StepKeepsParameters
  intro s t h
  obtain ⟨u, rfl, ⟨-, rfl⟩ | ⟨-, m, rest, -, hm⟩ | ⟨-, -, rfl⟩ | ⟨-, -, cmd, rest, i, -, -, hdec, hi⟩⟩ :=
    step_cases h
  · rfl
  · exact (State.tick_cfg _).trans (perform_cfg hm)
  · rfl
  · exact (State.tick_cfg _).trans (exec_cfg (s := { s with host := rest }) (decodeCommand_ne_idleStep hdec) hi)

/-! ## Rounding (00_scope section 5.1) -/

/-- `round` is the integer part where the remainder is at most one half, and the next integer where it is at least
one half. -/
theorem roundQ_cases (ties : RoundTies) (num den : Nat) :
    (2 * (num % den) ≤ den ∧ roundQ ties num den = num / den) ∨
    (den ≤ 2 * (num % den) ∧ roundQ ties num den = num / den + 1) := by
  unfold roundQ
  dsimp only
  split
  · exact .inl ⟨by omega, rfl⟩
  · split
    · exact .inr ⟨by omega, rfl⟩
    · cases ties with
      | halfUp => exact .inr ⟨by omega, rfl⟩
      | halfEven =>
        dsimp only
        split
        · exact .inl ⟨by omega, rfl⟩
        · exact .inr ⟨by omega, rfl⟩

theorem roundQ_nearest (ties : RoundTies) (num : Nat) {den : Nat} (hden : 1 ≤ den) :
    2 * num ≤ (2 * roundQ ties num den + 1) * den ∧ 2 * (roundQ ties num den * den) ≤ 2 * num + den := by
  have hdiv : num / den * den + num % den = num := Nat.div_add_mod' num den
  have hmod : num % den < den := Nat.mod_lt _ hden
  obtain ⟨hr, hq⟩ | ⟨hr, hq⟩ := roundQ_cases ties num den
  · rw [hq, Nat.add_mul, Nat.mul_assoc]
    omega
  · rw [hq, Nat.add_mul, Nat.mul_assoc, Nat.add_mul]
    omega

theorem roundQ_halfUp_of_tie {num den : Nat} (h : 2 * (num % den) = den) :
    roundQ .halfUp num den = num / den + 1 := by
  simp [roundQ, h]

theorem roundQ_halfEven_of_tie {num den : Nat} (h : 2 * (num % den) = den) :
    roundQ .halfEven num den % 2 = 0 := by
  simp only [roundQ, h, Nat.lt_irrefl, if_false]
  split <;> omega

/-- Settles O39, from the two values `roundQ_cases` leaves and num = den · q + r. -/
theorem roundIsNearestWithTieRule : Obligations.RoundIsNearestWithTieRule := by
  unfold Obligations.RoundIsNearestWithTieRule
  intro ties num den hden
  obtain ⟨hlow, hhigh⟩ := roundQ_nearest ties num hden
  refine ⟨hlow, hhigh, ?_, ?_⟩
  · rintro h rfl
    exact roundQ_halfUp_of_tie h
  · rintro h rfl
    exact roundQ_halfEven_of_tie h

/-! ## The transport registers: the two forms R21 and R42 leave them -/

/-- No packet is under way. -/
structure TxQuiet (s : State) : Prop where
  phase : s.txPhase = .idle
  pkt : s.txPkt = []
  off : s.txOff = 0
  out : s.outbuf = []

/-- What OUTBUF is left of: the current chunk once it is written, nothing before. -/
def State.writtenChunk (s : State) : Bytes :=
  match s.txPhase with
  | .pollPost => s.chunkNow
  | .flush => s.chunkNow
  | _ => []

/-- The packet at the head of SEQ is under way. -/
structure TxSending (s : State) : Prop where
  phase : s.txPhase ≠ .idle
  head : s.seq.head? = some (.tx s.txPkt)
  off : s.txOff < s.txPkt.length
  out : s.outbuf <:+ s.writtenChunk

theorem head_tx_of_txRegsOk (h : txRegsOk s) (hp : s.txPhase ≠ .idle) : ∃ pkt, s.seq.head? = some (.tx pkt) := by
  unfold txRegsOk at h
  split at h
  · exact absurd ‹s.txPhase = .idle› hp
  iterate 4 exact ⟨_, ‹_›⟩
  · exact h.elim

theorem txRegsOk_iff : txRegsOk s ↔ TxQuiet s ∨ TxSending s := by
  constructor
  · intro h
    by_cases hp : s.txPhase = .idle
    · obtain ⟨hpkt, hoff, hout⟩ : s.txPkt = [] ∧ s.txOff = 0 ∧ s.outbuf = [] := by simpa [txRegsOk, hp] using h
      exact .inl ⟨hp, hpkt, hoff, hout⟩
    · obtain ⟨pkt, hs⟩ := head_tx_of_txRegsOk h hp
      obtain ⟨rfl, hoff, hout⟩ : s.txPkt = pkt ∧ s.txOff < pkt.length ∧ s.outbuf <:+ s.writtenChunk := by
        cases hph : s.txPhase with
        | idle => exact absurd hph hp
        | _ => simpa [txRegsOk, State.writtenChunk, hs, hph] using h
      exact .inr ⟨hp, hs, hoff, hout⟩
  · rintro (⟨hp, hpkt, hoff, hout⟩ | ⟨hp, hs, hoff, hout⟩)
    · simp [txRegsOk, hp, hpkt, hoff, hout]
    · cases hph : s.txPhase with
      | idle => exact absurd hph hp
      | _ => simpa [txRegsOk, hs, hph, hoff, State.writtenChunk] using hout

theorem TxQuiet.txRegsOk (h : TxQuiet s) : txRegsOk s := txRegsOk_iff.2 (.inl h)

theorem TxSending.txRegsOk (h : TxSending s) : Machine.txRegsOk s := txRegsOk_iff.2 (.inr h)

theorem txQuiet_of_head (h : txRegsOk s) (hs : ∀ pkt, s.seq.head? ≠ some (.tx pkt)) : TxQuiet s :=
  (txRegsOk_iff.1 h).resolve_right fun hsend => hs _ hsend.head

theorem txQuiet_of_phase (h : txRegsOk s) (hp : s.txPhase = .idle) : TxQuiet s :=
  (txRegsOk_iff.1 h).resolve_right fun hsend => hsend.phase hp

theorem txSending_of_phase (h : txRegsOk s) (hp : s.txPhase ≠ .idle) : TxSending s :=
  (txRegsOk_iff.1 h).resolve_left fun hq => hp hq.phase

/-- A drain takes bytes off the front of OUTBUF alone (R44). -/
theorem txRegsOk_drained (h : txRegsOk s) (k : Nat) : txRegsOk (s.drained k) := by
  obtain hq | hsend := txRegsOk_iff.1 h
  · exact TxQuiet.txRegsOk ⟨hq.phase, hq.pkt, hq.off, by simp [hq.out]⟩
  · exact TxSending.txRegsOk
      ⟨hsend.phase, hsend.head, hsend.off, (List.drop_suffix k s.outbuf).trans hsend.out⟩

/-! ## Where the IDLECOMMITs of SEQ stand -/

/-- With no IDLECOMMIT in SEQ, IDLE may have any value. -/
theorem commitsOk_of_noCommit (idle : Idle) (h : noCommit l = true) : commitsOk idle l = true := by
  unfold commitsOk
  split
  · simp [noCommit, MicroOp.isCommit] at h
  · simp [noCommit, MicroOp.isCommit] at h
  · exact h

theorem noCommit_tail {m : MicroOp} (h : noCommit (m :: l) = true) : noCommit l = true := by
  simp only [noCommit, List.all_cons, Bool.and_eq_true] at h
  exact h.2

theorem noCommit_tail_of_not_tx {idle : Idle} {m : MicroOp} (hm : ∀ pkt, m ≠ .tx pkt)
    (h : commitsOk idle (m :: l) = true) : noCommit l = true := by
  cases m with
  | tx pkt => exact absurd rfl (hm pkt)
  | idleCommit e => exact (Bool.and_eq_true_iff.1 h).2
  | _ => exact noCommit_tail h

/-- The commit behind a packet comes to the head when the packet is sent. -/
theorem commitsOk_tail_of_tx {idle : Idle} {pkt : Bytes} (h : commitsOk idle (.tx pkt :: l) = true) :
    commitsOk idle l = true := by
  cases l with
  | nil => rfl
  | cons m l =>
    cases m with
    | idleCommit e => exact h
    | _ => exact commitsOk_of_noCommit idle (noCommit_tail h)

theorem commitsOk_tail {idle : Idle} {m : MicroOp} (h : commitsOk idle (m :: l) = true) :
    commitsOk idle l = true := by
  cases m with
  | tx pkt => exact commitsOk_tail_of_tx h
  | _ => exact commitsOk_of_noCommit idle (noCommit_tail_of_not_tx (by simp) h)

theorem idle_eq_source_of_commitsOk {idle : Idle} {e : IdleEdge}
    (h : commitsOk idle (.idleCommit e :: l) = true) : idle = e.source :=
  of_decide_eq_true (Bool.and_eq_true_iff.1 h).1

/-! ## The invariant, move by move -/

theorem BlockInv.tick (h : BlockInv s) : BlockInv s.tick := { h with }

theorem BlockInv.drained (h : BlockInv s) (k : Nat) : BlockInv (s.drained k) :=
  { h with txRegs := txRegsOk_drained h.txRegs k }

/-- With no packet under way the list in SEQ may be replaced by another of the right form. -/
theorem BlockInv.install (h : BlockInv s) (hq : TxQuiet s) (hd : doneLast l = true)
    (hc : commitsOk s.idle l = true) (hf : ∀ f, MicroOp.setPrev f ∈ l → isFrame s.cfg f = true) :
    BlockInv (s.install l) :=
  { h with
    done := hd
    commits := hc
    frames := hf
    txRegs := TxQuiet.txRegsOk ⟨hq.phase, hq.pkt, hq.off, hq.out⟩ }

theorem BlockInv.pop {m : MicroOp} (h : BlockInv s) (hq : TxQuiet s) (hs : s.seq = m :: rest) :
    BlockInv s.pop := by
  have hpop : s.pop = s.install rest := by simp [State.pop, State.install, hs]
  have hdone : doneLast (m :: rest) = true := hs ▸ h.done
  have hcommits : commitsOk s.idle (m :: rest) = true := hs ▸ h.commits
  rw [hpop]
  exact h.install hq (doneLast_tail hdone) (commitsOk_tail hcommits)
    fun f hf => h.frames f (hs ▸ List.mem_cons_of_mem m hf)

/-! ### The host's issue (R18, R20) -/

theorem BlockInv.issue {e : Expansion} (h : BlockInv s) (he : ∀ l, e = .ok l → Installable s.cfg l)
    (hi : issue s e = .next t) : BlockInv t := by
  obtain ⟨hc, ⟨k, -, rfl⟩ | ⟨l, hl, rfl⟩⟩ := issue_cases hi
  · exact { h with }
  · have hl := he l hl
    have hq := txQuiet_of_head h.txRegs (by simp [(canIssue_iff.1 hc).1])
    exact h.install hq hl.doneLast_eq_true (commitsOk_of_noCommit _ hl.noCommit_eq_true) hl.isFrame_of_setPrev_mem

theorem BlockInv.exec (h : BlockInv s) (hi : ∀ b, i ≠ .idleStep b) (he : exec i s = .next t) : BlockInv t := by
  obtain ⟨e, hexp⟩ := exists_expansionOf (c := s.cfg) (prev := s.prev) hi
  have hissue : BlockInv (s.atIssue i) := { h with prevOk := fun p hp => h.prevOk p (prevAtIssue_mem hp) }
  rw [exec_eq_issue hexp (prevUnreadable_of_prevOk h.prevOk)] at he
  exact hissue.issue (fun l hl => installable_of_expansionOf (hl ▸ hexp)) he

/-! ### The steps of TX (R72 to R78) -/

theorem BlockInv.raiseTransportError (h : BlockInv s) (site : ErrorSite) (atRisk : Bytes) :
    BlockInv (s.raiseTransportError site atRisk) :=
  { h with
    done := rfl
    commits := rfl
    frames := by simp [StoredFramesOk]
    txRegs := TxQuiet.txRegsOk ⟨rfl, rfl, rfl, rfl⟩ }

/-- A poll leaves the packet where it is, with the same part of the chunk written (R73, R75). -/
theorem BlockInv.txPoll {after : TxPhase} (h : BlockInv s) (hp : s.txPhase ≠ .idle) (ha : after ≠ .idle)
    (hw : s.writtenChunk = State.writtenChunk { s with txPhase := after }) : BlockInv (txPoll after s) := by
  have hsend := txSending_of_phase h.txRegs hp
  cases hr : s.inp.ready with
  | true =>
    have heq : Machine.txPoll after s = { s with trace := s.trace ++ [.poll true], txPhase := after } := by
      simp [Machine.txPoll, hr]
    rw [heq]
    exact { h with txRegs := TxSending.txRegsOk ⟨ha, hsend.head, hsend.off, hw ▸ hsend.out⟩ }
  | false =>
    have heq : Machine.txPoll after s = { s with trace := s.trace ++ [.poll false] } := by
      simp [Machine.txPoll, hr]
    rw [heq]
    exact { h with }

theorem BlockInv.performTx {pkt : Bytes} (h : BlockInv s) (hs : s.seq = .tx pkt :: rest) :
    BlockInv (performTx pkt s) := by
  obtain ⟨hp, -, heq⟩ | ⟨hp, hne, heq⟩ | ⟨hp, heq⟩ | ⟨hp, -, heq⟩ | ⟨hp, -, heq⟩ | ⟨hp, heq⟩ | ⟨hp, -, heq⟩ |
    ⟨hp, -, hlt, heq⟩ | ⟨hp, -, -, heq⟩ := performTx_cases pkt s <;> rw [heq]
  · exact h.pop (txQuiet_of_phase h.txRegs hp) hs
  · have hq := txQuiet_of_phase h.txRegs hp
    have hpos : 0 < pkt.length := List.length_pos_iff.2 hne
    exact { h with txRegs := TxSending.txRegsOk ⟨by simp, by simp [hs], hpos, by simp [hq.out]⟩ }
  · exact h.txPoll (by simp [hp]) (by simp) (by simp [State.writtenChunk, hp])
  · exact h.raiseTransportError .write _
  · have hsend := txSending_of_phase h.txRegs (by simp [hp])
    have hout : s.outbuf = [] := by simpa [State.writtenChunk, hp] using hsend.out
    have hchunk : s.outbuf ++ s.chunkNow <:+ s.chunkNow := by simp [hout]
    exact { h with txRegs := TxSending.txRegsOk ⟨by simp, hsend.head, hsend.off, hchunk⟩ }
  · exact h.txPoll (by simp [hp]) (by simp) (by simp [State.writtenChunk, hp, State.chunkNow])
  · exact h.raiseTransportError .flush _
  · have hsend := txSending_of_phase h.txRegs (by simp [hp])
    exact { h with txRegs := TxSending.txRegsOk ⟨by simp, hsend.head, hlt, by simp⟩ }
  · have hquiet : TxQuiet { s.flushed with txPkt := [], txOff := 0, txPhase := .idle } := ⟨rfl, rfl, rfl, rfl⟩
    have hinv : BlockInv { s.flushed with txPkt := [], txOff := 0, txPhase := .idle } :=
      { h with txRegs := hquiet.txRegsOk }
    exact hinv.pop hquiet hs

/-! ### The idle machine (R141 to R148) -/

/-- The idle registers may be written where SEQ holds no IDLECOMMIT. -/
theorem BlockInv.writeIdle (h : BlockInv s) (hn : noCommit s.seq = true) {idle : Idle} {t0 : Option Time} {n : Nat}
    (hr : IdleRegsOk { s with idle := idle, firstEmptyTime := t0, emptyCount := n }) :
    BlockInv { s with idle := idle, firstEmptyTime := t0, emptyCount := n } :=
  { h with
    idleRegs := hr
    commits := commitsOk_of_noCommit idle hn }

theorem one_le_cntMax (h : c.Legal) : ∀ m ∈ c.cntMax, 1 ≤ m := by
  obtain ⟨-, -, -, -, -, -, -, -, hcnt⟩ := h
  exact hcnt

theorem BlockInv.startCounting (h : BlockInv s) (hn : noCommit s.seq = true) : BlockInv s.startCounting :=
  h.writeIdle hn ⟨by simp, by simp, by simp, one_le_cntMax h.legal⟩

theorem BlockInv.toAwake (h : BlockInv s) (hn : noCommit s.seq = true) : BlockInv s.toAwake :=
  h.writeIdle hn ⟨by simp, by simp, by simp, by simp⟩

/-- IDLECOMMIT(ASLEEP) leaves the count and the time of COUNTING_EMPTY (R147). -/
theorem BlockInv.fallAsleep (h : BlockInv s) (hi : s.idle = .countingEmpty) (hn : noCommit s.seq = true) :
    BlockInv { s with idle := .asleep } := by
  obtain ⟨-, htime, hcount, hmax⟩ := h.idleRegs
  have ht : s.firstEmptyTime ≠ none := by simp [htime, hi]
  exact h.writeIdle hn ⟨by simp, by simp [ht], fun _ => hcount (by simp [hi]), hmax⟩

/-- `min(EMPTY_COUNT + 1, CNT_MAX)` is at least 1 and at most CNT_MAX (R14). -/
theorem bumpCount_bounds (hc : ∀ m ∈ c.cntMax, 1 ≤ m) (n : Nat) :
    1 ≤ bumpCount c n ∧ ∀ m ∈ c.cntMax, bumpCount c n ≤ m := by
  cases hm : c.cntMax with
  | none => simp [bumpCount, hm]
  | some m =>
    have h1 : 1 ≤ m := hc m hm
    simpa [bumpCount, hm] using h1

theorem BlockInv.countFrame (h : BlockInv s) (hi : s.idle = .countingEmpty) : BlockInv s.countFrame := by
  obtain ⟨-, htime, -, -⟩ := h.idleRegs
  obtain ⟨hpos, hmax⟩ := bumpCount_bounds (one_le_cntMax h.legal) s.emptyCount
  exact { h with idleRegs := ⟨by simp [hi], htime, fun _ => hpos, hmax⟩ }

/-- An IDLESTEP replaced by a packet and its IDLECOMMIT, where IDLE is at the start of the edge (R141). -/
theorem BlockInv.replaceIdleStep {b : Bool} {e : IdleEdge} (h : BlockInv s) (hs : s.seq = .idleStep b :: rest)
    (hq : TxQuiet s) (hi : s.idle = e.source) (pkt : Bytes) :
    BlockInv (s.replaceHead [.tx pkt, .idleCommit e]) := by
  have heq : s.replaceHead [.tx pkt, .idleCommit e] = s.install (.tx pkt :: .idleCommit e :: rest) := by
    simp [State.replaceHead, State.install, hs]
  have hdone : doneLast (.idleStep b :: rest) = true := hs ▸ h.done
  have hcommits : commitsOk s.idle (.idleStep b :: rest) = true := hs ▸ h.commits
  have hn : noCommit rest = true := noCommit_tail_of_not_tx (by simp) hcommits
  obtain ⟨hne, hlast⟩ := (doneLast_cons rfl).1 hdone
  rw [heq]
  refine h.install hq ?_ ?_ ?_
  · exact (doneLast_cons rfl).2 ⟨by simp, (doneLast_cons rfl).2 ⟨hne, hlast⟩⟩
  · simp [commitsOk, hi, hn]
  · intro f hf
    exact h.frames f (by simpa [hs] using hf)

theorem BlockInv.idleStepEffect {b : Bool} (h : BlockInv s) (hs : s.seq = .idleStep b :: rest)
    (he : idleStepEffect b s = .next t) : BlockInv t := by
  have hq : TxQuiet s := txQuiet_of_head h.txRegs (by simp [hs])
  have hpop : BlockInv s.pop := h.pop hq hs
  have hn : noCommit s.pop.seq = true := by
    have hcommits : commitsOk s.idle (.idleStep b :: rest) = true := hs ▸ h.commits
    simpa [hs] using noCommit_tail_of_not_tx (by simp) hcommits
  have hqcount : TxQuiet s.countFrame := ⟨hq.phase, hq.pkt, hq.off, hq.out⟩
  obtain ⟨-, -, rfl⟩ | ⟨-, -, rfl⟩ | ⟨_, hi, -, -, -, rfl⟩ | ⟨_, hi, -, -, -, rfl⟩ | ⟨-, -, rfl⟩ | ⟨-, -, rfl⟩ |
    ⟨hi, -, rfl⟩ := idleStepEffect_cases he
  · exact hpop
  · exact hpop.startCounting hn
  · exact (h.countFrame hi).replaceIdleStep (e := .asleep) hs hqcount hi _
  · exact (h.countFrame hi).pop hqcount hs
  · exact hpop.toAwake hn
  · exact hpop
  · exact h.replaceIdleStep (e := .awake) hs hq hi _

theorem BlockInv.performIdleCommit {e : IdleEdge} (h : BlockInv s) (hs : s.seq = .idleCommit e :: rest) :
    BlockInv (performIdleCommit e s) := by
  have hpop : BlockInv s.pop := h.pop (txQuiet_of_head h.txRegs (by simp [hs])) hs
  have hcommits : commitsOk s.idle (.idleCommit e :: rest) = true := hs ▸ h.commits
  have hn : noCommit s.pop.seq = true := by
    simpa [hs] using noCommit_tail_of_not_tx (by simp) hcommits
  cases e with
  | asleep => exact hpop.fallAsleep (idle_eq_source_of_commitsOk hcommits) hn
  | awake => exact hpop.toAwake hn

/-! ### The step -/

theorem BlockInv.perform {m : MicroOp} (h : BlockInv s) (hs : s.seq = m :: rest) (hp : perform m s = .next t) :
    BlockInv t := by
  obtain ⟨pkt, rfl, rfl⟩ | ⟨f, rfl, rfl⟩ | ⟨b, rfl, hb⟩ | ⟨e, rfl, rfl⟩ | ⟨r, rfl, rfl⟩ := perform_cases hp
  · exact h.performTx hs
  · have hpop : BlockInv s.pop := h.pop (txQuiet_of_head h.txRegs (by simp [hs])) hs
    have hf : isFrame s.cfg f = true := h.frames f (by simp [hs])
    exact { hpop with prevOk := by rintro p ⟨⟩; exact hf }
  · exact h.idleStepEffect hs hb
  · exact h.performIdleCommit hs
  · have hnil : BlockInv (s.install []) :=
      h.install (txQuiet_of_head h.txRegs (by simp [hs])) rfl rfl (by simp)
    exact { hnil with }

/-- Settles O5: each move of `step_cases` keeps the invariant. -/
theorem stepKeepsInvariant : Obligations.StepKeepsInvariant := by
  unfold Obligations.StepKeepsInvariant
  intro s t h hstep
  obtain ⟨u, rfl, ⟨-, rfl⟩ | ⟨-, m, rest, hs, hm⟩ | ⟨-, -, rfl⟩ |
    ⟨-, -, cmd, rest, i, hhost, -, hdec, hi⟩⟩ := step_cases hstep
  · exact (h.drained _).tick
  · exact (h.perform hs hm).tick
  · exact h.tick
  · have hrest : BlockInv { s with host := rest } :=
      { h with hostOk := fun cmd' hc => h.hostOk cmd' (hhost ▸ List.mem_cons_of_mem cmd hc) }
    exact (hrest.exec (decodeCommand_ne_idleStep hdec) hi).tick

/-! ## The invariant at reset (R27, R191) -/

/-- Settles O4: the boot sequence has the installable form, and every other register its reset value. -/
theorem startedBlocksMeetInvariant : Obligations.StartedBlocksMeetInvariant := by
  unfold Obligations.StartedBlocksMeetInvariant
  intro c host inputs hlegal hboot hhost
  have hempty : BlockInv ((started c host inputs).install []) :=
    { legal := hlegal
      prevOk := by rintro p ⟨⟩
      idleRegs := ⟨fun _ => rfl, iff_of_true rfl rfl, fun h => absurd rfl h, fun m _ => Nat.zero_le m⟩
      done := rfl
      commits := rfl
      frames := by simp [StoredFramesOk]
      txRegs := TxQuiet.txRegsOk ⟨rfl, rfl, rfl, rfl⟩
      hostOk := hhost }
  by_cases hne : c.bootSeq = []
  · have hseq : (started c host inputs).install [] = started c host inputs := by
      simp [started, State.resetOf, State.install, hne, bootExpansion]
    exact hseq ▸ hempty
  · have hl : Installable c (bootExpansion c c.bootSeq) := installable_bootExpansion hne hboot
    exact hempty.install ⟨rfl, rfl, rfl, rfl⟩ hl.doneLast_eq_true
      (commitsOk_of_noCommit _ hl.noCommit_eq_true) hl.isFrame_of_setPrev_mem

theorem default_initialBrightness_le : Config.default.initialBrightness ≤ Config.default.levelDen :=
  Nat.le_of_lt_succ Config.freeInitialBrightness.isLt

theorem default_legal : Config.default.Legal :=
  ⟨by decide, by decide, by decide, by decide, default_initialBrightness_le, by decide, by decide, by decide,
    by simp [Config.default]⟩

theorem default_bootLegal : bootLegal Config.default := by
  intro i hi
  obtain rfl : i = .setBrightness Config.default.initialBrightness := List.mem_singleton.1 hi
  rw [bootOne_setBrightness_of_le default_initialBrightness_le]
  rfl

/-- Settles O3: the default block is a legal one, with an empty host queue and no listed inputs. -/
theorem resetMeetsInvariant : Obligations.ResetMeetsInvariant :=
  startedBlocksMeetInvariant Config.default [] [] default_legal default_bootLegal (by simp)

end Sys2Proof.Machine
end

section
/-! # The family of 10_state: who may write which register, and where a step stops

Each move has one equation for the step that makes it (`step_of_seq`, `step_of_host`, ...) and one frame lemma for what
it leaves; the statements about a step are then read off `step_cases`. -/

namespace Sys2Proof.Machine

variable {c : Config} {s t : State} {i : Instr} {b : Bool} {l rest : List MicroOp}

/-! ## The equation of each move (R20, R174) -/

/-- The block performs the head of SEQ. -/
theorem step_of_seq {m : MicroOp} (hd : s.drainDue = false) (hs : s.seq = m :: rest) :
    step s = andTick (perform m s) := by
  simp [step, turn, hd, hs]

/-- SEQ is empty: the move is the host's. -/
theorem step_of_seq_nil (hd : s.drainDue = false) (hs : s.seq = []) : step s = andTick (hostTurn s) := by
  simp [step, turn, hd, hs]

theorem step_of_host_nil (hd : s.drainDue = false) (hs : s.seq = []) (hh : s.host = []) :
    step s = .next s.tick := by
  simp [step_of_seq_nil hd hs, hostTurn, hh]

theorem step_of_closed (hd : s.drainDue = false) (hs : s.seq = []) (hc : s.inp.chOpen = false) :
    step s = .next s.tick := by
  cases hh : s.host with
  | nil => exact step_of_host_nil hd hs hh
  | cons cmd rest => simp [step_of_seq_nil hd hs, hostTurn, hh, hc]

/-- The host issues the operation its command selects. -/
theorem step_of_host {cmd : HostCommand} {cmds : List HostCommand} (hd : s.drainDue = false) (hs : s.seq = [])
    (hh : s.host = cmd :: cmds) (hc : s.inp.chOpen = true) (hi : decodeCommand cmd = .ok i) :
    step s = andTick (exec i { s with host := cmds }) := by
  simp [step_of_seq_nil hd hs, hostTurn, hh, hc, hi]

theorem step_of_reject {cmd : HostCommand} {cmds : List HostCommand} {r : Reject} (hd : s.drainDue = false)
    (hs : s.seq = []) (hh : s.host = cmd :: cmds) (hc : s.inp.chOpen = true) (hr : decodeCommand cmd = .error r) :
    step s = .refused .noSuchSelector := by
  simp [step_of_seq_nil hd hs, hostTurn, hh, hc, hr]

theorem step_of_drain (hd : s.drainDue = true) : step s = .next (s.drained s.inp.drain).tick := by
  simp [step, turn, hd]

/-! ## What each move leaves unchanged -/

/-- A TX writes neither PREV nor the idle registers. -/
theorem performTx_frame (pkt : Bytes) (s : State) :
    (performTx pkt s).prev = s.prev ∧ (performTx pkt s).idle = s.idle ∧
      (performTx pkt s).firstEmptyTime = s.firstEmptyTime ∧ (performTx pkt s).emptyCount = s.emptyCount := by
  obtain ⟨-, -, h⟩ | ⟨-, -, h⟩ | ⟨-, h⟩ | ⟨-, -, h⟩ | ⟨-, -, h⟩ | ⟨-, h⟩ | ⟨-, -, h⟩ | ⟨-, -, -, h⟩ |
    ⟨-, -, -, h⟩ := performTx_cases pkt s <;> rw [h] <;> exact ⟨rfl, rfl, rfl, rfl⟩

/-- A TX writes RESULT only with a transport error, which a write or a flush raises (R163). -/
theorem performTx_result (pkt : Bytes) (s : State) :
    (performTx pkt s).result = s.result ∨
      ((s.txPhase = .write ∨ s.txPhase = .flush) ∧ s.inp.chErr = true ∧
        (performTx pkt s).seq = [] ∧ (performTx pkt s).result = .transportError) := by
  obtain ⟨-, -, h⟩ | ⟨-, -, h⟩ | ⟨-, h⟩ | ⟨hp, he, h⟩ | ⟨-, -, h⟩ | ⟨-, h⟩ | ⟨hp, he, h⟩ | ⟨-, -, -, h⟩ |
    ⟨-, -, -, h⟩ := performTx_cases pkt s <;> rw [h]
  · exact .inl rfl
  · exact .inl rfl
  · exact .inl rfl
  · exact .inr ⟨.inl hp, he, rfl, rfl⟩
  · exact .inl rfl
  · exact .inl rfl
  · exact .inr ⟨.inr hp, he, rfl, rfl⟩
  · exact .inl rfl
  · exact .inl rfl

/-- A TX appends to WIRE and TRACE (R22, R23). -/
theorem performTx_grows (pkt : Bytes) (s : State) :
    s.wire <+: (performTx pkt s).wire ∧ s.trace <+: (performTx pkt s).trace := by
  obtain ⟨-, -, h⟩ | ⟨-, -, h⟩ | ⟨-, h⟩ | ⟨-, -, h⟩ | ⟨-, -, h⟩ | ⟨-, h⟩ | ⟨-, -, h⟩ | ⟨-, -, -, h⟩ |
    ⟨-, -, -, h⟩ := performTx_cases pkt s <;> simp [h, txPoll]

/-- A TX leaves SEQ, takes its head off, or empties it. -/
theorem performTx_seq_subset (pkt : Bytes) (s : State) : (performTx pkt s).seq ⊆ s.seq := by
  obtain ⟨-, -, h⟩ | ⟨-, -, h⟩ | ⟨-, h⟩ | ⟨-, -, h⟩ | ⟨-, -, h⟩ | ⟨-, h⟩ | ⟨-, -, h⟩ | ⟨-, -, -, h⟩ |
    ⟨-, -, -, h⟩ := performTx_cases pkt s <;> simp [h, txPoll, List.tail_subset]

/-- An IDLESTEP writes the idle registers and SEQ alone. -/
theorem idleStepEffect_frame (h : idleStepEffect b s = .next t) :
    t.prev = s.prev ∧ t.result = s.result ∧ t.wire = s.wire ∧ t.trace = s.trace := by
  obtain ⟨-, -, rfl⟩ | ⟨-, -, rfl⟩ | ⟨_, -, -, -, -, rfl⟩ | ⟨_, -, -, -, -, rfl⟩ | ⟨-, -, rfl⟩ | ⟨-, -, rfl⟩ |
    ⟨-, -, rfl⟩ := idleStepEffect_cases h <;> exact ⟨rfl, rfl, rfl, rfl⟩

/-- An IDLECOMMIT writes the idle registers and SEQ alone. -/
theorem performIdleCommit_frame (e : IdleEdge) (s : State) :
    (performIdleCommit e s).prev = s.prev ∧ (performIdleCommit e s).result = s.result ∧
      (performIdleCommit e s).wire = s.wire ∧ (performIdleCommit e s).trace = s.trace := by
  cases e <;> exact ⟨rfl, rfl, rfl, rfl⟩

/-- A host operation writes neither the idle registers nor WIRE and TRACE. -/
theorem exec_frame (hi : ∀ b, i ≠ .idleStep b) (h : exec i s = .next t) :
    t.idle = s.idle ∧ t.firstEmptyTime = s.firstEmptyTime ∧ t.emptyCount = s.emptyCount ∧ t.wire = s.wire ∧
      t.trace = s.trace := by
  obtain ⟨-, ⟨k, rfl⟩ | ⟨l, -, rfl⟩ | ⟨-, rfl⟩⟩ := exec_host_cases hi h <;> exact ⟨rfl, rfl, rfl, rfl, rfl⟩

/-! ## ASLEEP is reached only when the delay has passed (R15(b)) -/

/-- The block is not ASLEEP and has not decided to be (R15(b)). -/
structure OffAsleep (s : State) : Prop where
  idle : s.idle ≠ .asleep
  seq : MicroOp.idleCommit .asleep ∉ s.seq

theorem OffAsleep.of_seq_subset (h : OffAsleep s) (hi : t.idle = s.idle) (hl : t.seq ⊆ s.seq) : OffAsleep t :=
  ⟨hi ▸ h.idle, fun hm => h.seq (hl hm)⟩

theorem OffAsleep.pop (h : OffAsleep s) : OffAsleep s.pop := h.of_seq_subset rfl (List.tail_subset _)

theorem idleCommit_not_mem_of_noCommit (h : noCommit l = true) (e : IdleEdge) : MicroOp.idleCommit e ∉ l := by
  intro hm
  simpa [MicroOp.isCommit] using List.all_eq_true.1 h _ hm

theorem Installable.idleCommit_not_mem (h : Installable c l) (e : IdleEdge) : MicroOp.idleCommit e ∉ l :=
  idleCommit_not_mem_of_noCommit h.noCommit_eq_true e

/-- A host operation is the issue of its expansion, or an UPDATE that finds a PREV it cannot read (R11). -/
theorem exec_issue_or_fault (hi : ∀ b, i ≠ .idleStep b) :
    ∃ e, expansionOf s.cfg s.prev i = some e ∧
      (exec i s = issue (s.atIssue i) e ∨
        exec i s = .fault .prevNotAFrame ∧ ∃ f, s.prevUnreadable f = true) := by
  cases i with
  | idleStep b => exact absurd rfl (hi b)
  | update f =>
    refine ⟨_, rfl, ?_⟩
    cases hu : s.prevUnreadable f with
    | false => exact .inl (exec_update s f hu)
    | true => exact .inr ⟨by simp [exec, execUpdate, hu], f, hu⟩
  | _ => exact ⟨_, rfl, .inl rfl⟩

theorem OffAsleep.exec (h : OffAsleep s) (hi : ∀ b, i ≠ .idleStep b) (he : exec i s = .next t) :
    OffAsleep t := by
  obtain ⟨e, hexp, hissue | ⟨hf, -⟩⟩ := exec_issue_or_fault (s := s) hi
  · obtain ⟨-, ⟨k, -, rfl⟩ | ⟨l, rfl, rfl⟩⟩ := issue_cases (hissue.symm.trans he)
    · exact ⟨h.idle, h.seq⟩
    · exact ⟨h.idle, (installable_of_expansionOf hexp).idleCommit_not_mem .asleep⟩
  · cases hf.symm.trans he

/-- An IDLESTEP puts an IDLECOMMIT(ASLEEP) in SEQ only where it finds the delay reached (R144). -/
theorem OffAsleep.idleStepEffect (h : OffAsleep s) (he : idleStepEffect b s = .next t) :
    (b = true ∧ s.idle = .countingEmpty ∧
      ∃ t0, s.firstEmptyTime = some t0 ∧ delayReached s.cfg (s.inp.now - t0) = true) ∨ OffAsleep t := by
  obtain ⟨-, -, rfl⟩ | ⟨-, -, rfl⟩ | ⟨t0, hi, hb, ht, hd, rfl⟩ | ⟨_, -, -, -, -, rfl⟩ | ⟨-, -, rfl⟩ | ⟨hi, -, -⟩ |
    ⟨hi, -, -⟩ := idleStepEffect_cases he
  · exact .inr h.pop
  · exact .inr ⟨by simp, h.pop.seq⟩
  · exact .inl ⟨hb, hi, t0, ht, hd⟩
  · exact .inr ⟨h.idle, h.pop.seq⟩
  · exact .inr ⟨by simp, h.pop.seq⟩
  · exact absurd hi h.idle
  · exact absurd hi h.idle

theorem OffAsleep.perform {m : MicroOp} (h : OffAsleep s) (hd : s.drainDue = false) (hs : s.seq = m :: rest)
    (hp : perform m s = .next t) : sleepDecided s ∨ OffAsleep t := by
  obtain ⟨pkt, rfl, rfl⟩ | ⟨f, rfl, rfl⟩ | ⟨b, rfl, hb⟩ | ⟨e, rfl, rfl⟩ | ⟨r, rfl, rfl⟩ := perform_cases hp
  · obtain ⟨-, hidle, -, -⟩ := performTx_frame pkt s
    exact .inr (h.of_seq_subset hidle (performTx_seq_subset pkt s))
  · exact .inr ⟨h.idle, h.pop.seq⟩
  · obtain ⟨rfl, hi, ht⟩ | ht := h.idleStepEffect hb
    · exact .inl ⟨hd, by simp [hs], hi, ht⟩
    · exact .inr ht
  · cases e with
    | asleep => exact absurd (by simp [hs]) h.seq
    | awake => exact .inr ⟨by simp [performIdleCommit], h.pop.seq⟩
  · exact .inr ⟨h.idle, by simp [performDone]⟩

theorem OffAsleep.step (h : OffAsleep s) (hstep : step s = .next t) : sleepDecided s ∨ OffAsleep t := by
  obtain ⟨u, rfl, ⟨-, rfl⟩ | ⟨hd, m, rest, hs, hm⟩ | ⟨-, -, rfl⟩ | ⟨-, -, cmd, rest, i, -, -, hdec, hi⟩⟩ :=
    step_cases hstep
  · exact .inr ⟨h.idle, h.seq⟩
  · exact (h.perform hd hs hm).imp_right fun hu => ⟨hu.idle, hu.seq⟩
  · exact .inr ⟨h.idle, h.seq⟩
  · have hrest : OffAsleep { s with host := rest } := ⟨h.idle, h.seq⟩
    have hu := hrest.exec (decodeCommand_ne_idleStep hdec) hi
    exact .inr ⟨hu.idle, hu.seq⟩

/-- A boot sequence, legal or not, holds no IDLECOMMIT (R191). -/
theorem idleCommit_not_mem_bootExpansion (c : Config) (is : List Instr) (e : IdleEdge) :
    MicroOp.idleCommit e ∉ bootExpansion c is := by
  have hone : ∀ i, MicroOp.idleCommit e ∉ (bootOne c i).getD [] := by
    intro i
    cases hi : bootOne c i with
    | none => simp
    | some l => exact (installable_of_bootOne hi).idleCommit_not_mem e
  fun_induction bootExpansion c is with
  | case1 => simp
  | case2 i => exact hone i
  | case3 i j rest ih =>
    rw [List.mem_append]
    rintro (hm | hm)
    · exact hone i (List.mem_of_mem_dropLast hm)
    · exact ih hm

theorem offAsleep_started (c : Config) (host : List HostCommand) (inputs : List Inputs) :
    OffAsleep (started c host inputs) :=
  ⟨by simp [started, State.resetOf], idleCommit_not_mem_bootExpansion c c.bootSeq .asleep⟩

/-- A run that ends ASLEEP has passed a state in which the delay was found reached. -/
theorem OffAsleep.exists_sleepDecided_of_run {n : Nat} (h : OffAsleep s)
    (hrun : Sys2Proof.core.run n s = .next t) (ht : t.idle = .asleep) :
    ∃ k u, k < n ∧ Sys2Proof.core.run k s = .next u ∧ sleepDecided u := by
  induction n generalizing s with
  | zero =>
    cases hrun
    exact absurd ht h.idle
  | succ n ih =>
    rw [core_run_succ] at hrun
    cases hs : Machine.step s with
    | fault r => simp [hs] at hrun
    | refused r => simp [hs] at hrun
    | next v =>
      obtain hdec | hv := h.step hs
      · exact ⟨0, s, Nat.succ_pos n, rfl, hdec⟩
      · obtain ⟨k, u, hk, hu, hdec⟩ := ih hv (by simpa [hs] using hrun)
        exact ⟨k + 1, u, Nat.succ_lt_succ hk, by rw [core_run_succ, hs]; exact hu, hdec⟩

/-- Settles O54: `OffAsleep` holds at reset and every step but a sleep decision keeps it. -/
theorem asleepOnlyAfterTheDelay : Obligations.AsleepOnlyAfterTheDelay := by
  unfold Obligations.AsleepOnlyAfterTheDelay
  refine ⟨fun s t hidle hseq hstep => ?_, fun c host inputs => ?_, fun n s t hidle hseq hrun ht => ?_⟩
  · exact (OffAsleep.step ⟨hidle, hseq⟩ hstep).imp_right fun ht => ⟨ht.idle, ht.seq⟩
  · exact ⟨(offAsleep_started c host inputs).idle, (offAsleep_started c host inputs).seq⟩
  · exact OffAsleep.exists_sleepDecided_of_run ⟨hidle, hseq⟩ hrun ht

/-! ## Where a step stops (R11, R15, R62) -/

/-- A performed IDLESTEP answers a next state or finds no first-empty time in COUNTING_EMPTY. -/
theorem idleStepEffect_next_or_fault (b : Bool) (s : State) :
    (∃ t, idleStepEffect b s = .next t) ∨
      (idleStepEffect b s = .fault .firstEmptyTimeAbsent ∧ s.idle = .countingEmpty ∧ s.firstEmptyTime = none) := by
  by_cases h : s.idle = .countingEmpty ∧ s.firstEmptyTime = none
  · obtain ⟨hi, ht⟩ := h
    cases b with
    | false => exact .inl ⟨s.toAwake.pop, by simp [idleStepEffect, hi]⟩
    | true => exact .inr ⟨by simp [idleStepEffect, hi, ht], hi, ht⟩
  · exact .inl (idleStepEffect_next b fun hi ht => h ⟨hi, ht⟩)

/-- The head of SEQ is always something the block can perform: only an IDLESTEP can stop. -/
theorem perform_next_or_fault {m : MicroOp} (hs : s.seq = m :: rest) :
    (∃ t, perform m s = .next t) ∨
      (perform m s = .fault .firstEmptyTimeAbsent ∧ s.idle = .countingEmpty ∧ s.firstEmptyTime = none) := by
  cases m with
  | idleStep b =>
    have hdue : perform (.idleStep b) s = idleStepEffect b s := execIdleStep_due (by simp [hs])
    rw [hdue]
    exact idleStepEffect_next_or_fault b s
  | _ => exact .inl ⟨_, rfl⟩

theorem issue_next_of_canIssue (h : s.canIssue = true) (e : Expansion) : ∃ t, issue s e = .next t := by
  rw [issue_of_canIssue h]
  cases e <;> exact ⟨_, rfl⟩

theorem exists_prev_not_frame_of_prevUnreadable {f : Bitmap} (h : s.prevUnreadable f = true) :
    ∃ p, s.prev = some p ∧ isFrame s.cfg p = false := by
  cases hp : s.prev with
  | none => simp [State.prevUnreadable, hp] at h
  | some p =>
    obtain ⟨-, hframe⟩ : (s.canIssue = true ∧ isFrame s.cfg f = true) ∧ isFrame s.cfg p = false := by
      simpa [State.prevUnreadable, hp] using h
    exact ⟨p, rfl, hframe⟩

/-- An operation the host may issue answers a next state, or is an UPDATE that finds a PREV that is no frame. -/
theorem exec_next_or_fault (hi : ∀ b, i ≠ .idleStep b) (hc : s.canIssue = true) :
    (∃ t, exec i s = .next t) ∨
      (exec i s = .fault .prevNotAFrame ∧ ∃ p, s.prev = some p ∧ isFrame s.cfg p = false) := by
  obtain ⟨e, -, hissue | ⟨hf, f, hu⟩⟩ := exec_issue_or_fault (s := s) hi
  · exact .inl (hissue ▸ issue_next_of_canIssue (s := s.atIssue i) hc e)
  · exact .inr ⟨hf, exists_prev_not_frame_of_prevUnreadable hu⟩

theorem selects_eq_false_of_decodeCommand_error {cmd : HostCommand} {r : Reject}
    (h : decodeCommand cmd = .error r) : cmd.selects = false := by
  cases hsel : cmd.selects with
  | false => rfl
  | true =>
    obtain ⟨i, hi, -⟩ := decodeCommand_selects hsel
    cases hi.symm.trans h

/-- Every step answers a next state or stops for one of three reasons. -/
theorem step_next_or_stop (s : State) :
    (∃ t, step s = .next t) ∨
    (step s = .refused .noSuchSelector ∧ s.seq = [] ∧ ∃ cmd rest, s.host = cmd :: rest ∧ cmd.selects = false) ∨
    (step s = .fault .firstEmptyTimeAbsent ∧ s.idle = .countingEmpty ∧ s.firstEmptyTime = none) ∨
    (step s = .fault .prevNotAFrame ∧ ∃ p, s.prev = some p ∧ isFrame s.cfg p = false) := by
  cases hd : s.drainDue with
  | true => exact .inl ⟨_, step_of_drain hd⟩
  | false =>
    cases hs : s.seq with
    | cons m rest =>
      rw [step_of_seq hd hs]
      obtain ⟨t, ht⟩ | ⟨hf, hwhy⟩ := perform_next_or_fault hs
      · exact .inl ⟨t.tick, by simp [ht]⟩
      · exact .inr (.inr (.inl ⟨by simp [hf], hwhy⟩))
    | nil =>
      cases hc : s.inp.chOpen with
      | false => exact .inl ⟨_, step_of_closed hd hs hc⟩
      | true =>
        cases hh : s.host with
        | nil => exact .inl ⟨_, step_of_host_nil hd hs hh⟩
        | cons cmd rest =>
          cases hdec : decodeCommand cmd with
          | error r =>
            have hsel := selects_eq_false_of_decodeCommand_error hdec
            exact .inr (.inl ⟨step_of_reject hd hs hh hc hdec, rfl, cmd, rest, rfl, hsel⟩)
          | ok i =>
            rw [step_of_host hd hs hh hc hdec]
            obtain ⟨t, ht⟩ | ⟨hf, hwhy⟩ := exec_next_or_fault (s := { s with host := rest })
              (decodeCommand_ne_idleStep hdec) (canIssue_iff.2 ⟨hs, hc⟩)
            · exact .inl ⟨t.tick, by simp [ht]⟩
            · exact .inr (.inr (.inr ⟨by simp [hf], hwhy⟩))

/-- Settles O7, from the four ways a step can go (`step_next_or_stop`). -/
theorem stepStopsOnlyForTheseReasons : Obligations.StepStopsOnlyForTheseReasons := by
  unfold Obligations.StepStopsOnlyForTheseReasons
  refine ⟨fun s r h => ?_, fun s r h => ?_⟩
  · obtain ⟨t, ht⟩ | ⟨hr, hwhy⟩ | ⟨hf, -⟩ | ⟨hf, -⟩ := step_next_or_stop s
    · cases ht.symm.trans h
    · cases hr.symm.trans h
      exact ⟨rfl, hwhy⟩
    · cases hf.symm.trans h
    · cases hf.symm.trans h
  · obtain ⟨t, ht⟩ | ⟨hr, -⟩ | ⟨hf, hwhy⟩ | ⟨hf, hwhy⟩ := step_next_or_stop s
    · cases ht.symm.trans h
    · cases hr.symm.trans h
    · cases hf.symm.trans h
      exact .inl ⟨rfl, hwhy⟩
    · cases hf.symm.trans h
      exact .inr ⟨rfl, hwhy⟩

/-- Settles O6: the invariant excludes each of the three reasons to stop. -/
theorem invariantGivesProgress : Obligations.InvariantGivesProgress := by
  unfold Obligations.InvariantGivesProgress
  intro s h
  obtain hnext | ⟨-, -, cmd, rest, hh, hsel⟩ | ⟨-, hi, ht⟩ | ⟨-, p, hp, hf⟩ := step_next_or_stop s
  · exact hnext
  · have := h.hostOk cmd (by simp [hh])
    simp [hsel] at this
  · obtain ⟨-, htime, -, -⟩ := h.idleRegs
    simp [htime.1 ht] at hi
  · have := h.prevOk p hp
    simp [hf] at this

/-! ## Who writes PREV, the idle registers, RESULT, WIRE and TRACE -/

/-- Settles O14: of the moves of `step_cases` only SETPREV and DISCARD_PREV write PREV. -/
theorem prevChangesOnlyBySetPrevOrDiscard : Obligations.PrevChangesOnlyBySetPrevOrDiscard := by
  unfold Obligations.PrevChangesOnlyBySetPrevOrDiscard
  intro s t h hne
  obtain ⟨u, rfl, ⟨-, rfl⟩ | ⟨-, m, rest, hs, hm⟩ | ⟨-, -, rfl⟩ | ⟨-, hs, cmd, rest, i, hh, -, hdec, hi⟩⟩ :=
    step_cases h
  · exact absurd rfl hne
  · obtain ⟨pkt, -, rfl⟩ | ⟨f, rfl, rfl⟩ | ⟨b, -, hb⟩ | ⟨e, -, rfl⟩ | ⟨r, -, rfl⟩ := perform_cases hm
    · obtain ⟨hprev, -⟩ := performTx_frame pkt s
      exact absurd hprev hne
    · exact .inl ⟨f, rest, hs, rfl⟩
    · obtain ⟨hprev, -⟩ := idleStepEffect_frame hb
      exact absurd hprev hne
    · obtain ⟨hprev, -⟩ := performIdleCommit_frame e s
      exact absurd hprev hne
    · exact absurd rfl hne
  · exact absurd rfl hne
  · obtain ⟨-, ⟨k, rfl⟩ | ⟨l, -, rfl⟩ | ⟨rfl, rfl⟩⟩ := exec_host_cases (decodeCommand_ne_idleStep hdec) hi
    · exact absurd rfl hne
    · exact absurd rfl hne
    · exact .inr ⟨hs, rfl, cmd, rest, hh, hdec⟩

/-- A step performs an IDLESTEP or an IDLECOMMIT, or it leaves the idle registers. -/
theorem step_idleRegs (h : step s = .next t) :
    (∃ b rest, s.seq = .idleStep b :: rest) ∨ (∃ e rest, s.seq = .idleCommit e :: rest) ∨
      (t.idle = s.idle ∧ t.firstEmptyTime = s.firstEmptyTime ∧ t.emptyCount = s.emptyCount) := by
  obtain ⟨u, rfl, ⟨-, rfl⟩ | ⟨-, m, rest, hs, hm⟩ | ⟨-, -, rfl⟩ | ⟨-, -, cmd, rest, i, -, -, hdec, hi⟩⟩ :=
    step_cases h
  · exact .inr (.inr ⟨rfl, rfl, rfl⟩)
  · obtain ⟨pkt, -, rfl⟩ | ⟨f, -, rfl⟩ | ⟨b, rfl, -⟩ | ⟨e, rfl, -⟩ | ⟨r, -, rfl⟩ := perform_cases hm
    · obtain ⟨-, hregs⟩ := performTx_frame pkt s
      exact .inr (.inr hregs)
    · exact .inr (.inr ⟨rfl, rfl, rfl⟩)
    · exact .inl ⟨b, rest, hs⟩
    · exact .inr (.inl ⟨e, rest, hs⟩)
    · exact .inr (.inr ⟨rfl, rfl, rfl⟩)
  · exact .inr (.inr ⟨rfl, rfl, rfl⟩)
  · obtain ⟨hidle, htime, hcount, -, -⟩ := exec_frame (decodeCommand_ne_idleStep hdec) hi
    exact .inr (.inr ⟨hidle, htime, hcount⟩)

/-- Settles O15, by `step_idleRegs`. -/
theorem idleRegistersChangeOnlyByIdleMachine : Obligations.IdleRegistersChangeOnlyByIdleMachine := by
  unfold Obligations.IdleRegistersChangeOnlyByIdleMachine
  intro s t h hne
  obtain hstep | hcommit | ⟨hidle, htime, hcount⟩ := step_idleRegs h
  · exact .inl hstep
  · exact .inr hcommit
  · simp [hidle, htime, hcount] at hne

theorem busy_eq_false_iff : s.busy = false ↔ s.seq = [] := by simp [State.busy]

/-- Settles O16: of the moves of `step_cases` only DONE, the transport error and the violation write RESULT, and
each leaves SEQ empty. -/
theorem resultChangesOnlyAtTheEnd : Obligations.ResultChangesOnlyAtTheEnd := by
  unfold Obligations.ResultChangesOnlyAtTheEnd
  intro s t h hne
  rw [busy_eq_false_iff]
  obtain ⟨u, rfl, ⟨-, rfl⟩ | ⟨-, m, rest, hs, hm⟩ | ⟨-, -, rfl⟩ | ⟨-, hs, cmd, rest, i, -, -, hdec, hi⟩⟩ :=
    step_cases h
  · exact absurd rfl hne
  · obtain ⟨pkt, rfl, rfl⟩ | ⟨f, -, rfl⟩ | ⟨b, -, hb⟩ | ⟨e, -, rfl⟩ | ⟨r, rfl, rfl⟩ := perform_cases hm
    · obtain hkeep | ⟨hphase, herr, hnil, hres⟩ := performTx_result pkt s
      · exact absurd hkeep hne
      · exact ⟨hnil, .inr (.inl ⟨pkt, rest, hs, hphase, herr, hres⟩)⟩
    · exact absurd rfl hne
    · obtain ⟨-, hres, -⟩ := idleStepEffect_frame hb
      exact absurd hres hne
    · obtain ⟨-, hres, -⟩ := performIdleCommit_frame e s
      exact absurd hres hne
    · exact ⟨rfl, .inl ⟨r, rest, hs, rfl⟩⟩
  · exact absurd rfl hne
  · obtain ⟨-, ⟨k, rfl⟩ | ⟨l, -, rfl⟩ | ⟨-, rfl⟩⟩ := exec_host_cases (decodeCommand_ne_idleStep hdec) hi
    · exact ⟨hs, .inr (.inr ⟨hs, k, rfl⟩)⟩
    · exact absurd rfl hne
    · exact absurd rfl hne

/-- Settles O17: a drain and a TX append, every other move leaves both histories. -/
theorem wireAndTraceOnlyGrow : Obligations.WireAndTraceOnlyGrow := by
  unfold Obligations.WireAndTraceOnlyGrow
  intro s t h
  obtain ⟨u, rfl, ⟨-, rfl⟩ | ⟨-, m, rest, -, hm⟩ | ⟨-, -, rfl⟩ | ⟨-, -, cmd, rest, i, -, -, hdec, hi⟩⟩ :=
    step_cases h
  · simp
  · obtain ⟨pkt, -, rfl⟩ | ⟨f, -, rfl⟩ | ⟨b, -, hb⟩ | ⟨e, -, rfl⟩ | ⟨r, -, rfl⟩ := perform_cases hm
    · exact performTx_grows pkt s
    · exact ⟨List.prefix_rfl, List.prefix_rfl⟩
    · obtain ⟨-, -, hwire, htrace⟩ := idleStepEffect_frame hb
      simp [hwire, htrace]
    · obtain ⟨-, -, hwire, htrace⟩ := performIdleCommit_frame e s
      simp [hwire, htrace]
    · exact ⟨List.prefix_rfl, List.prefix_rfl⟩
  · simp
  · obtain ⟨-, -, -, hwire, htrace⟩ := exec_frame (decodeCommand_ne_idleStep hdec) hi
    simp [hwire, htrace]

/-! ## Reset, and the moves one by one -/

/-- Settles O1: `State.resetOf` writes every element out. -/
theorem resetGivesEveryElementItsValue : Obligations.ResetGivesEveryElementItsValue := by
  unfold Obligations.ResetGivesEveryElementItsValue
  exact ⟨fun _ => ⟨rfl, rfl, rfl, rfl, rfl, rfl, rfl, rfl, rfl, rfl, rfl, rfl, rfl⟩, rfl⟩

/-- Settles O8, by the equations of the host's and the block's moves. -/
theorem stepRunsTheDecodedOperation : Obligations.StepRunsTheDecodedOperation := by
  unfold Obligations.StepRunsTheDecodedOperation
  exact ⟨fun s cmd rest i hd hs hh hc hdec => step_of_host hd hs hh hc hdec,
    fun s b rest hd hs => step_of_seq hd hs, fun _ => rfl⟩

/-- The wire reader answers what one of its forms reads. -/
theorem exists_form_of_readWith {forms : List (Bytes × (Bytes → Except Reject (Instr × Bytes)))} {bs tail : Bytes}
    (h : readWith forms bs = .ok (i, tail)) : ∃ form ∈ forms, ∃ operands, form.2 operands = .ok (i, tail) := by
  induction forms with
  | nil => cases h
  | cons form forms ih =>
    simp only [readWith] at h
    split at h
    · exact ⟨form, by simp, _, h⟩
    · obtain ⟨form', hmem, hread⟩ := ih h
      exact ⟨form', List.mem_cons_of_mem form hmem, hread⟩

theorem readF1_ne_idleStep {bs tail : Bytes} (h : readF1 bs = .ok (i, tail)) (b : Bool) : i ≠ .idleStep b := by
  unfold readF1 at h
  split at h <;> cases h
  simp

theorem readF2_ne_idleStep {bs tail : Bytes} (h : readF2 c bs = .ok (i, tail)) (b : Bool) : i ≠ .idleStep b := by
  unfold readF2 at h
  split at h
  · split at h <;> cases h
    simp
  · cases h

theorem readF3_ne_idleStep {bs tail : Bytes} (h : readF3 bs = .ok (i, tail)) (b : Bool) : i ≠ .idleStep b := by
  unfold readF3 at h
  split at h
  · dsimp only at h
    split at h <;> cases h
    simp
  · cases h

theorem readF4_ne_idleStep {bs tail : Bytes} (h : readF4 c bs = .ok (i, tail)) (b : Bool) : i ≠ .idleStep b := by
  unfold readF4 at h
  split at h <;> cases h
  simp

/-- No packet reads as IDLE_STEP, which has no wire format (R51). -/
theorem decode_ne_idleStep {bs tail : Bytes} (h : decode c bs = .ok (i, tail)) (b : Bool) : i ≠ .idleStep b := by
  unfold decode at h
  split at h
  · cases h
  · obtain ⟨form, hmem, operands, hread⟩ := exists_form_of_readWith h
    simp only [packetForms, List.mem_cons, List.not_mem_nil, or_false] at hmem
    obtain rfl | rfl | rfl | rfl | rfl | rfl | rfl | rfl := hmem
    · cases hread; simp
    · cases hread; simp
    · exact readF1_ne_idleStep hread b
    · exact readF2_ne_idleStep hread b
    · exact readF3_ne_idleStep hread b
    · exact readF4_ne_idleStep hread b
    · cases hread; simp
    · cases hread; simp

theorem decodeTableWord_ne_idleStep {nbits w : Nat} (h : decodeTableWord nbits w = some i) (b : Bool) :
    i ≠ .idleStep b := by
  unfold decodeTableWord at h
  split at h
  · cases h
    exact decode_ne_idleStep ‹_› b
  · cases h

/-- Every operation but IDLE_STEP has a command, which selects it (R62). -/
theorem exists_command (hi : ∀ b, i ≠ .idleStep b) :
    ∃ cmd, encodeCommand i = some cmd ∧ decodeCommand cmd = .ok i := by
  cases i with
  | idleStep b => exact absurd rfl (hi b)
  | _ => exact ⟨_, rfl, rfl⟩

theorem decodeCommand_commandOfWord {nbits w : Nat} (h : decodeTableWord nbits w = some i) :
    decodeCommand (commandOfWord nbits w) = .ok i := by
  obtain ⟨cmd, hcmd, hdec⟩ := exists_command (decodeTableWord_ne_idleStep h)
  simpa [commandOfWord, h, hcmd] using hdec

/-- Settles O9: the placed state is one at which the host's move is the issue of the table word's operation. -/
theorem placedTableWordRunsNext : Obligations.PlacedTableWordRunsNext := by
  unfold Obligations.PlacedTableWordRunsNext
  intro s nbits w i h
  have hd : (s.withFetchWord nbits w).drainDue = false := by
    simp [State.drainDue, State.inp, State.withFetchWord, State.placeWord, State.issueInputs]
  exact step_of_host hd rfl rfl rfl (decodeCommand_commandOfWord h)

/-- Settles O10, by the equations of the host's and the block's moves. -/
theorem idleBlockDoesNothing : Obligations.IdleBlockDoesNothing := by
  unfold Obligations.IdleBlockDoesNothing
  exact ⟨fun s hd hs hh => step_of_host_nil hd hs hh, fun s hd hs hc => step_of_closed hd hs hc,
    fun s => busy_eq_false_iff, fun s m rest hd hs => step_of_seq hd hs⟩

/-- Settles O11: each is the step's `perform`, and what removes the head leaves the rest of SEQ. -/
theorem doneSetPrevAndIdleCommitEffects : Obligations.DoneSetPrevAndIdleCommitEffects := by
  unfold Obligations.DoneSetPrevAndIdleCommitEffects
  refine ⟨fun s r rest hd hs => step_of_seq hd hs, fun s f rest hd hs => ?_, fun s rest hd hs => ?_,
    fun s rest hd hs => ?_⟩
  · simp [step_of_seq hd hs, perform, performSetPrev, State.pop, hs]
  · simp [step_of_seq hd hs, perform, performIdleCommit, State.pop, hs]
  · simp [step_of_seq hd hs, perform, performIdleCommit, State.pop, State.toAwake, hs]

/-- Settles O60: the tables of R17, R162 and R12 are the definitions of the codes. -/
theorem statusNumbers : Obligations.StatusNumbers := by
  unfold Obligations.StatusNumbers
  refine ⟨rfl, rfl, rfl, fun _ _ => ⟨rfl, rfl, rfl⟩, fun _ => rfl, fun _ => rfl, rfl, rfl, rfl, rfl, rfl, rfl, rfl,
    rfl, rfl, ?_⟩
  intro i
  cases i <;> decide

end Sys2Proof.Machine
end

section
/-! # The family of 20_memory: the bytes of a field, the channel's drain, the order in which a TX sends

A packet cut at a multiple of N is cut into the chunks of its two parts (`chunks_append`); so the chunk the block is
at is the next one of its packet, and each step of TX extends the bytes and the events of `TxProgress` by its own. -/

namespace Sys2Proof.Machine

variable {s t : State} {pkt wire0 : Bytes} {trace0 : List Event} {rest : List MicroOp}

/-! ## Two-byte fields (R34, R52) -/

theorem toNat_lo8 (v : Nat) : (lo8 v).toNat = v % 256 := by
  simp [lo8]

theorem toNat_hi8 {v : Nat} (h : v ≤ 65535) : (hi8 v).toNat = v / 256 := by
  have : v / 256 < 256 := by omega
  simp [hi8, Nat.mod_eq_of_lt this]

/-- Settles O40: the two bytes are the remainder and the quotient of v by 256. -/
theorem littleEndianFieldHoldsItsValue : Obligations.LittleEndianFieldHoldsItsValue := by
  unfold Obligations.LittleEndianFieldHoldsItsValue
  intro v hv
  refine ⟨toNat_lo8 v, toNat_hi8 hv, rfl, ?_⟩
  rw [ofLe16, toNat_lo8, toNat_hi8 hv]
  exact Nat.mod_add_div v 256

/-! ## The channel's own move (R44) -/

theorem drainDue_of_le (hpos : 0 < s.inp.drain) (hle : s.inp.drain ≤ s.outbuf.length) : s.drainDue = true := by
  have hne : s.outbuf ≠ [] := List.ne_nil_of_length_pos (by omega)
  simp [State.drainDue, hpos, hle, hne]

/-- A drain changes neither the order nor the content of the stream. -/
theorem drained_stream (s : State) (k : Nat) : (s.drained k).wire ++ (s.drained k).outbuf = s.wire ++ s.outbuf := by
  simp

/-- Settles O25: such a step is the channel's move. -/
theorem drainMovesTheFrontOfOutbuf : Obligations.DrainMovesTheFrontOfOutbuf := by
  unfold Obligations.DrainMovesTheFrontOfOutbuf
  intro s hpos hle
  exact ⟨step_of_drain (drainDue_of_le hpos hle), drained_stream s s.inp.drain⟩

/-! ## The chunks of a packet (R71, R74) -/

/-- What fits in one chunk is one chunk. -/
theorem chunks_of_length_le {n : Nat} (hne : pkt ≠ []) (hle : pkt.length ≤ n) : chunks n pkt = [pkt] := by
  have hpos : 0 < pkt.length := List.length_pos_iff.2 hne
  have hcount : (pkt.length + n - 1) / n = 1 := Nat.div_eq_of_lt_le (by omega) (by omega)
  simp [chunks, hcount, chunkAt, List.take_of_length_le hle]

theorem chunkAt_append_left {n off : Nat} {p q : Bytes} (h : off + n ≤ p.length) :
    chunkAt n (p ++ q) off = chunkAt n p off := by
  have hdrop : (p ++ q).drop off = p.drop off ++ q := List.drop_append_of_le_length (by omega)
  rw [chunkAt, hdrop, List.take_append_of_le_length (by simp; omega), chunkAt]

theorem chunkAt_append_right (n off : Nat) (p q : Bytes) :
    chunkAt n (p ++ q) (p.length + off) = chunkAt n q off := by
  rw [chunkAt, List.drop_length_add_append, chunkAt]

/-- A packet cut at a multiple of N has the chunks of its two parts. -/
theorem chunks_append {n : Nat} {p : Bytes} (hn : 1 ≤ n) (hp : n ∣ p.length) (q : Bytes) :
    chunks n (p ++ q) = chunks n p ++ chunks n q := by
  obtain ⟨k, hk⟩ := hp
  have hcount : ∀ m, (n * k + m + n - 1) / n = k + (m + n - 1) / n := by
    intro m
    rw [show n * k + m + n - 1 = n * k + (m + n - 1) by omega, Nat.mul_add_div hn]
  have hleft : (p.length + n - 1) / n = k := by
    have hlast : (0 + n - 1) / n = 0 := Nat.div_eq_of_lt (by omega)
    simpa only [hk, hlast, Nat.add_zero] using hcount 0
  have hboth : ((p ++ q).length + n - 1) / n = k + (q.length + n - 1) / n := by
    rw [List.length_append, hk, hcount]
  rw [chunks, chunks, chunks, hleft, hboth, List.range_add, List.map_append, List.map_map]
  congr 1
  · refine List.map_congr_left fun j hj => chunkAt_append_left ?_
    have hle : (j + 1) * n ≤ k * n := Nat.mul_le_mul_right n (List.mem_range.1 hj)
    rw [hk, Nat.mul_comm n k]
    rwa [Nat.succ_mul] at hle
  · refine List.map_congr_left fun j _ => ?_
    rw [Function.comp_apply, Nat.add_mul, Nat.mul_comm k n, ← hk, chunkAt_append_right]

/-- The bytes up to the next offset are those before TX_OFF and the current chunk. -/
theorem take_nextOff (s : State) : s.txPkt.take s.nextOff = s.txPkt.take s.txOff ++ s.chunkNow := by
  rw [State.nextOff, ← List.take_eq_take_min, List.take_add, State.chunkNow, chunkAt]

theorem chunkNow_ne_nil (hn : 1 ≤ s.cfg.chunk) (hoff : s.txOff < s.txPkt.length) : s.chunkNow ≠ [] := by
  have : s.cfg.chunk ≠ 0 := by omega
  simp [State.chunkNow, chunkAt, this, hoff]

/-- The current chunk is the next one of the packet. -/
theorem chunks_take_nextOff (hn : 1 ≤ s.cfg.chunk) (hw : s.cfg.chunk ∣ s.txOff) (hoff : s.txOff < s.txPkt.length) :
    chunks s.cfg.chunk (s.txPkt.take s.nextOff) =
      chunks s.cfg.chunk (s.txPkt.take s.txOff) ++ [s.chunkNow] := by
  have hlen : (s.txPkt.take s.txOff).length = s.txOff := List.length_take_of_le hoff.le
  have hfit : s.chunkNow.length ≤ s.cfg.chunk := List.length_take_le _ _
  rw [take_nextOff, chunks_append hn (by rwa [hlen]), chunks_of_length_le (chunkNow_ne_nil hn hoff) hfit]

/-- The events of the packet up to the next offset: those before, and the four of the current chunk. -/
theorem events_take_nextOff (hn : 1 ≤ s.cfg.chunk) (hw : s.cfg.chunk ∣ s.txOff)
    (hoff : s.txOff < s.txPkt.length) (hp : s.txPhase = .flush) :
    (chunks s.cfg.chunk (s.txPkt.take s.nextOff)).flatMap chunkEvents =
      (chunks s.cfg.chunk (s.txPkt.take s.txOff)).flatMap chunkEvents ++ s.chunkEventsNow ++ [.flush] := by
  simp [chunks_take_nextOff hn hw hoff, chunkEvents, State.chunkEventsNow, hp]

/-! ## The two ways a TX ends -/

/-- The TX has ended with its whole packet in WIRE and the four events of each of its chunks in TRACE (R77, R82). -/
def TxComplete (wire0 : Bytes) (trace0 : List Event) (pkt : Bytes) (rest : List MicroOp) (s t : State) : Prop :=
  t.seq = rest ∧ t.wire = wire0 ++ pkt ∧ t.outbuf = [] ∧ t.txPkt = [] ∧ t.txOff = 0 ∧ t.txPhase = .idle ∧
    t.result = s.result ∧
    t.trace.filter notStall = trace0.filter notStall ++ (chunks s.cfg.chunk pkt).flatMap chunkEvents

/-- The TX has ended by a transport error, with a front part of its packet in WIRE (R163, R164). -/
def TxFailed (wire0 pkt : Bytes) (t : State) : Prop :=
  t.seq = [] ∧ t.result = .transportError ∧ t.outbuf = [] ∧ t.txPkt = [] ∧ t.txOff = 0 ∧ t.txPhase = .idle ∧
    ∃ q, q <+: pkt ∧ t.wire = wire0 ++ q

/-! ## A TX in order, move by move -/

theorem TxProgress.tick (h : TxProgress wire0 trace0 pkt rest s) : TxProgress wire0 trace0 pkt rest s.tick :=
  ⟨h.seq, h.regs, h.whole, h.sent, h.events⟩

theorem TxProgress.drained (h : TxProgress wire0 trace0 pkt rest s) (k : Nat) :
    TxProgress wire0 trace0 pkt rest (s.drained k) :=
  ⟨h.seq, txRegsOk_drained h.regs k, h.whole, (drained_stream s k).trans h.sent, h.events⟩

/-- While the packet is under way TX_PKT holds it. -/
theorem TxProgress.sending (h : TxProgress wire0 trace0 pkt rest s) (hp : s.txPhase ≠ .idle) :
    TxSending s ∧ s.txPkt = pkt := by
  have hsend := txSending_of_phase h.regs hp
  have hhead := hsend.head
  rw [h.seq] at hhead
  exact ⟨hsend, by simpa using hhead.symm⟩

/-- The stream holds the chunks before TX_OFF and, once it is written, the current one. -/
theorem take_sentCount (s : State) : s.txPkt.take s.sentCount = s.txPkt.take s.txOff ++ s.writtenChunk := by
  cases hp : s.txPhase <;> simp [State.sentCount, State.writtenChunk, hp, take_nextOff]

/-- WIRE holds the chunks before TX_OFF and the part of the current one that has left OUTBUF. -/
theorem TxProgress.exists_left (h : TxProgress wire0 trace0 pkt rest s) (hp : s.txPhase ≠ .idle) :
    ∃ left, left ++ s.outbuf = s.writtenChunk ∧ s.wire = wire0 ++ (pkt.take s.txOff ++ left) := by
  obtain ⟨hsend, rfl⟩ := h.sending hp
  obtain ⟨left, hleft⟩ := hsend.out
  refine ⟨left, hleft, List.append_cancel_right (bs := s.outbuf) ?_⟩
  rw [h.sent, take_sentCount, ← hleft]
  simp only [List.append_assoc]

/-- A transport error leaves in WIRE a front part of the packet, whatever part of B ++ C leaves (R164). -/
theorem TxProgress.raiseTransportError {c : Bytes} (h : TxProgress wire0 trace0 pkt rest s) (hp : s.txPhase ≠ .idle)
    (hc : s.writtenChunk ++ c = s.chunkNow) (site : ErrorSite) :
    TxFailed wire0 pkt (s.raiseTransportError site (s.outbuf ++ c)) := by
  obtain ⟨left, hleft, hwire⟩ := h.exists_left hp
  obtain ⟨-, rfl⟩ := h.sending hp
  refine ⟨rfl, rfl, rfl, rfl, rfl, rfl, s.txPkt.take s.txOff ++ (left ++ (s.outbuf ++ c).take s.inp.errSent), ?_, ?_⟩
  · have hchunk : left ++ (s.outbuf ++ c) = s.chunkNow := by rw [← List.append_assoc, hleft, hc]
    have hfront : left ++ (s.outbuf ++ c).take s.inp.errSent <+: s.chunkNow :=
      hchunk ▸ (List.prefix_append_right_inj left).2 (List.take_prefix _ _)
    calc s.txPkt.take s.txOff ++ (left ++ (s.outbuf ++ c).take s.inp.errSent)
      _ <+: s.txPkt.take s.txOff ++ s.chunkNow := (List.prefix_append_right_inj _).2 hfront
      _ <+: s.txPkt := take_nextOff s ▸ List.take_prefix _ _
  · simp [hwire]

/-- A poll records what it samples; a 1 moves on, with the same part of the packet sent (R73, R75). -/
theorem TxProgress.txPoll {after : TxPhase} (h : TxProgress wire0 trace0 pkt rest s) (hp : s.txPhase ≠ .idle)
    (ha : after ≠ .idle) (hw : State.writtenChunk { s with txPhase := after } = s.writtenChunk)
    (hc : State.sentCount { s with txPhase := after } = s.sentCount)
    (he : State.chunkEventsNow { s with txPhase := after } = s.chunkEventsNow ++ [.poll true]) :
    TxProgress wire0 trace0 pkt rest (txPoll after s) := by
  obtain ⟨hsend, rfl⟩ := h.sending hp
  cases hr : s.inp.ready with
  | true =>
    have heq : Machine.txPoll after s = { s with trace := s.trace ++ [.poll true], txPhase := after } := by
      simp [Machine.txPoll, hr]
    rw [heq]
    refine ⟨h.seq, TxSending.txRegsOk ⟨ha, hsend.head, hsend.off, hw ▸ hsend.out⟩, h.whole, ?_, ?_⟩
    · exact hc ▸ h.sent
    · have hnow : State.chunkEventsNow { s with trace := s.trace ++ [.poll true], txPhase := after } =
          s.chunkEventsNow ++ [.poll true] := he
      simp [hnow, h.events, notStall]
  | false =>
    have heq : Machine.txPoll after s = { s with trace := s.trace ++ [.poll false] } := by
      simp [Machine.txPoll, hr]
    rw [heq]
    refine ⟨h.seq, TxSending.txRegsOk ⟨hp, hsend.head, hsend.off, hsend.out⟩, h.whole, h.sent, ?_⟩
    have hstall : (s.trace ++ [Event.poll false]).filter notStall = s.trace.filter notStall := by simp [notStall]
    exact hstall.trans h.events

/-- The packet is loaded with nothing of it sent (R72). -/
theorem TxProgress.load (h : TxProgress wire0 trace0 pkt rest s) (hp : s.txPhase = .idle) (hne : pkt ≠ []) :
    TxProgress wire0 trace0 pkt rest { s with txPkt := pkt, txOff := 0, txPhase := .pollPre } := by
  have hq := txQuiet_of_phase h.regs hp
  have hpos : 0 < pkt.length := List.length_pos_iff.2 hne
  have hregs := TxSending.txRegsOk (s := { s with txPkt := pkt, txOff := 0, txPhase := .pollPre })
    ⟨by simp, by simp [h.seq], hpos, by simp [hq.out]⟩
  exact ⟨h.seq, hregs, dvd_zero _, by simpa [State.sentCount, hp, hq.off] using h.sent,
    by simpa [State.chunkEventsNow, hp, hq.off] using h.events⟩

/-- The current chunk goes to OUTBUF (R74). -/
theorem TxProgress.writeChunk (h : TxProgress wire0 trace0 pkt rest s) (hp : s.txPhase = .write) :
    TxProgress wire0 trace0 pkt rest
      { s with
        outbuf := s.outbuf ++ s.chunkNow
        trace := s.trace ++ [.write s.chunkNow]
        txPhase := .pollPost } := by
  obtain ⟨hsend, rfl⟩ := h.sending (by simp [hp])
  have hout : s.outbuf = [] := by simpa [State.writtenChunk, hp] using hsend.out
  have hwire : s.wire = wire0 ++ s.txPkt.take s.txOff := by simpa [State.sentCount, hp, hout] using h.sent
  have hevents : s.trace.filter notStall = trace0.filter notStall ++
      (chunks s.cfg.chunk (s.txPkt.take s.txOff)).flatMap chunkEvents ++ [.poll true] := by
    simpa [State.chunkEventsNow, hp] using h.events
  refine ⟨h.seq, TxSending.txRegsOk ⟨by simp, hsend.head, hsend.off, ?_⟩, h.whole, ?_, ?_⟩
  · simp [hout, State.writtenChunk, State.chunkNow]
  · calc s.wire ++ (s.outbuf ++ s.chunkNow)
      _ = wire0 ++ s.txPkt.take s.nextOff := by simp [hwire, hout, take_nextOff]
  · simp [hevents, notStall, State.chunkEventsNow, State.chunkNow]

/-! ### The flush (R76, R77) -/

/-- A flush leaves in WIRE the packet up to the next offset, and in TRACE the four events of each chunk up to there. -/
theorem TxProgress.flushed (h : TxProgress wire0 trace0 pkt rest s) (hn : 1 ≤ s.cfg.chunk) (hp : s.txPhase = .flush) :
    s.flushed.wire = wire0 ++ pkt.take s.nextOff ∧
    s.flushed.trace.filter notStall =
      trace0.filter notStall ++ (chunks s.cfg.chunk (pkt.take s.nextOff)).flatMap chunkEvents := by
  obtain ⟨hsend, rfl⟩ := h.sending (by simp [hp])
  refine ⟨by simpa [State.sentCount, hp] using h.sent, ?_⟩
  simp [events_take_nextOff hn h.whole hsend.off hp, h.events, notStall]

/-- Where the packet goes on after a flush, its next chunk begins. -/
theorem TxProgress.nextChunk (h : TxProgress wire0 trace0 pkt rest s) (hn : 1 ≤ s.cfg.chunk) (hp : s.txPhase = .flush)
    (hlt : s.nextOff < s.txPkt.length) :
    TxProgress wire0 trace0 pkt rest { s.flushed with txPhase := .pollPre } := by
  obtain ⟨hsend, rfl⟩ := h.sending (by simp [hp])
  obtain ⟨hwire, hevents⟩ := h.flushed hn hp
  have hnext : s.nextOff = s.txOff + s.cfg.chunk := by
    simp only [State.nextOff] at hlt ⊢
    omega
  have hwhole : s.cfg.chunk ∣ s.nextOff := hnext ▸ dvd_add h.whole dvd_rfl
  exact ⟨h.seq, TxSending.txRegsOk ⟨by simp, hsend.head, hlt, by simp⟩, hwhole,
    by simpa [State.sentCount] using hwire, by simpa [State.chunkEventsNow] using hevents⟩

/-- Where the next offset is the end of the packet, the flush completes it. -/
theorem TxProgress.complete (h : TxProgress wire0 trace0 pkt rest s) (hn : 1 ≤ s.cfg.chunk) (hp : s.txPhase = .flush)
    (hend : s.nextOff = s.txPkt.length) :
    TxComplete wire0 trace0 pkt rest s
      { s.flushed with txPkt := [], txOff := 0, txPhase := .idle, seq := s.seq.tail } := by
  obtain ⟨-, rfl⟩ := h.sending (by simp [hp])
  have hflush := h.flushed hn hp
  rw [hend, List.take_length] at hflush
  obtain ⟨hwire, hevents⟩ := hflush
  exact ⟨by simp [h.seq], hwire, rfl, rfl, rfl, rfl, rfl, hevents⟩

/-- A TX of the empty packet is complete at once (R72). -/
theorem TxProgress.complete_of_nil (h : TxProgress wire0 trace0 [] rest s) (hp : s.txPhase = .idle) :
    TxComplete wire0 trace0 [] rest s s.pop := by
  have hq := txQuiet_of_phase h.regs hp
  refine ⟨by simp [h.seq], ?_, hq.out, hq.pkt, hq.off, hp, rfl, ?_⟩
  · simpa [hq.out] using h.sent
  · simpa [State.chunkEventsNow, hp] using h.events

/-! ### The step -/

/-- Every step of TX keeps its packet in order or ends it in one of the two ways. -/
theorem TxProgress.performTx (h : TxProgress wire0 trace0 pkt rest s) (hn : 1 ≤ s.cfg.chunk) :
    TxProgress wire0 trace0 pkt rest (performTx pkt s) ∨ TxComplete wire0 trace0 pkt rest s (performTx pkt s) ∨
      TxFailed wire0 pkt (performTx pkt s) := by
  obtain ⟨hp, rfl, heq⟩ | ⟨hp, hne, heq⟩ | ⟨hp, heq⟩ | ⟨hp, -, heq⟩ | ⟨hp, -, heq⟩ | ⟨hp, heq⟩ | ⟨hp, -, heq⟩ |
    ⟨hp, -, hlt, heq⟩ | ⟨hp, -, hend, heq⟩ := performTx_cases pkt s <;> rw [heq]
  · exact .inr (.inl (h.complete_of_nil hp))
  · exact .inl (h.load hp hne)
  · refine .inl (h.txPoll (by simp [hp]) (by simp) ?_ ?_ ?_)
    · simp [State.writtenChunk, hp]
    · simp [State.sentCount, hp]
    · simp [State.chunkEventsNow, hp]
  · exact .inr (.inr (h.raiseTransportError (by simp [hp]) (by simp [State.writtenChunk, hp]) .write))
  · exact .inl (h.writeChunk hp)
  · refine .inl (h.txPoll (by simp [hp]) (by simp) ?_ ?_ ?_)
    · simp [State.writtenChunk, hp, State.chunkNow]
    · simp [State.sentCount, hp, State.nextOff]
    · simp [State.chunkEventsNow, hp, State.chunkNow]
  · have hfail := h.raiseTransportError (c := []) (by simp [hp]) (by simp [State.writtenChunk, hp]) .flush
    exact .inr (.inr (by simpa using hfail))
  · exact .inl (h.nextChunk hn hp hlt)
  · exact .inr (.inl (h.complete hn hp hend))

/-- Settles O28: while the TX is at the head of SEQ a step is a drain or a step of TX. -/
theorem txSendsItsPacketInOrder : Obligations.TxSendsItsPacketInOrder := by
  unfold Obligations.TxSendsItsPacketInOrder
  intro wire0 trace0 pkt rest s t hn h hstep
  cases hd : s.drainDue with
  | true =>
    rw [step_of_drain hd] at hstep
    cases hstep
    exact .inl (h.drained s.inp.drain).tick
  | false =>
    rw [step_of_seq hd h.seq] at hstep
    cases hstep
    exact (h.performTx hn).imp_left TxProgress.tick

end Sys2Proof.Machine
end

section
/-! # The family of 30_encoding: packets, chunks, the brightness byte, the host command port

A packet is an opcode string and operands. Where no opcode string begins another, the reader finds the packet's own
form (`decode_append_of_form`), so a packet reads back as soon as its operands do (`exists_form_of_encode`, by the
formats F0 to F4). -/

namespace Sys2Proof.Machine

variable {c : Config} {i : Instr} {pkt : Bytes}

/-! ## The opcode strings (R57, R58) -/

theorem stripOpcode_append (opc bs : Bytes) : stripOpcode opc (opc ++ bs) = some bs := by
  induction opc with
  | nil => rfl
  | cons o opc ih => simpa [stripOpcode] using ih

theorem isPrefix_of_stripOpcode {opc bs rest : Bytes} (h : stripOpcode opc bs = some rest) : opc <+: bs := by
  induction opc, bs using stripOpcode.induct with
  | case1 bs => exact List.nil_prefix
  | case2 o os => cases h
  | case3 o os bs ih =>
    rw [stripOpcode, if_pos rfl] at h
    exact List.cons_prefix_cons.2 ⟨rfl, ih h⟩
  | case4 o os b bs hne =>
    rw [stripOpcode, if_neg hne] at h
    cases h

/-- An opcode string that neither begins another nor begins with it is not found in front of the other's packet. -/
theorem stripOpcode_append_of_not_isPrefix {a b : Bytes} (h : ¬ a <+: b ∧ ¬ b <+: a) (bs : Bytes) :
    stripOpcode a (b ++ bs) = none := by
  refine Option.eq_none_iff_forall_ne_some.2 fun rest hrest => ?_
  obtain hab | hba := List.prefix_or_prefix_of_prefix (isPrefix_of_stripOpcode hrest) (List.prefix_append b bs)
  · exact h.1 hab
  · exact h.2 hba

/-- Among forms whose opcode strings do not begin one another, the reader takes the one that wrote the packet. -/
theorem readWith_append_of_mem {forms : List (Bytes × (Bytes → Except Reject (Instr × Bytes)))}
    (hfree : (forms.map Prod.fst).Pairwise (fun a b => ¬ a <+: b ∧ ¬ b <+: a))
    {form : Bytes × (Bytes → Except Reject (Instr × Bytes))} (hmem : form ∈ forms) (operands : Bytes) :
    readWith forms (form.1 ++ operands) = form.2 operands := by
  induction forms with
  | nil => cases hmem
  | cons f forms ih =>
    obtain ⟨hf, hfree⟩ := List.pairwise_cons.1 hfree
    obtain rfl | hmem := List.mem_cons.1 hmem
    · simp [readWith, stripOpcode_append]
    · have hskip := stripOpcode_append_of_not_isPrefix (hf form.1 (List.mem_map_of_mem hmem)) operands
      simpa [readWith, hskip] using ih hfree hmem

theorem opcode_ne_nil (hc : c.legalOpcodes) {form : Bytes × (Bytes → Except Reject (Instr × Bytes))}
    (hmem : form ∈ packetForms c) : form.1 ≠ [] := by
  obtain ⟨hreset, hclear, hcursor, hbrightness, himage, hscroll, hsleep, hwake, -⟩ := hc
  refine List.ne_nil_of_length_pos ?_
  simp only [packetForms, List.mem_cons, List.not_mem_nil, or_false] at hmem
  obtain rfl | rfl | rfl | rfl | rfl | rfl | rfl | rfl := hmem <;> dsimp only <;> omega

theorem decode_of_ne_nil {bs : Bytes} (h : bs ≠ []) : decode c bs = readWith (packetForms c) bs := by
  cases bs with
  | nil => exact absurd rfl h
  | cons b bs => rfl

/-- R58: a packet of one of the forms is read by that form. -/
theorem decode_append_of_form (hc : c.Legal) (hfree : c.PrefixFree)
    {form : Bytes × (Bytes → Except Reject (Instr × Bytes))} (hmem : form ∈ packetForms c) (operands : Bytes) :
    decode c (form.1 ++ operands) = form.2 operands := by
  obtain ⟨-, hopcodes, -⟩ := hc
  rw [decode_of_ne_nil (List.append_ne_nil_of_left_ne_nil (opcode_ne_nil hopcodes hmem) operands)]
  exact readWith_append_of_mem (forms := packetForms c) hfree hmem operands

/-! ## The brightness byte (R54) -/

/-- HALF_UP is the floor of num / den + 1/2. -/
theorem roundQ_halfUp (num : Nat) {den : Nat} (hden : 1 ≤ den) :
    roundQ .halfUp num den = (2 * num + den) / (2 * den) := by
  have hdiv : den * (num / den) + num % den = num := Nat.div_add_mod num den
  have hmod : num % den < den := Nat.mod_lt _ hden
  have hshift : 2 * num + den = 2 * den * (num / den) + (2 * (num % den) + den) := by
    rw [Nat.mul_assoc]
    omega
  have hcarry : (2 * (num % den) + den) / (2 * den) = if 2 * (num % den) < den then 0 else 1 := by
    split
    · exact Nat.div_eq_of_lt (by omega)
    · exact Nat.div_eq_of_lt_le (by omega) (by omega)
  rw [hshift, Nat.mul_add_div (by omega), hcarry]
  unfold roundQ
  dsimp only
  split
  · rfl
  · exact ite_self _

theorem roundQ_halfUp_eq_zero_iff {num den : Nat} (hden : 1 ≤ den) :
    roundQ .halfUp num den = 0 ↔ 2 * num < den := by
  rw [roundQ_halfUp num hden, Nat.div_eq_zero_iff]
  omega

theorem roundQ_halfEven_eq_zero_iff {num den : Nat} (hden : 1 ≤ den) :
    roundQ .halfEven num den = 0 ↔ 2 * num ≤ den := by
  constructor
  · intro h
    obtain ⟨hnear, -⟩ := roundQ_nearest .halfEven num hden
    rw [h] at hnear
    omega
  · intro h
    have hmod : num % den = num := Nat.mod_eq_of_lt (by omega)
    have hdiv : num / den = 0 := Nat.div_eq_of_lt (by omega)
    obtain hlt | heq := Nat.lt_or_eq_of_le h
    · simp [roundQ, hmod, hdiv, hlt]
    · simp [roundQ, hmod, hdiv, heq]

/-- Inside [0, 1] the rounded level does not pass 8: 9 would be more than one half away. -/
theorem roundQ_level_le {k : Nat} (ties : RoundTies) (hden : 1 ≤ c.levelDen) (hk : k ≤ c.levelDen) :
    roundQ ties (8 * k) c.levelDen ≤ 8 := by
  obtain ⟨-, hnear⟩ := roundQ_nearest ties (8 * k) hden
  by_contra hgt
  have : 9 * c.levelDen ≤ roundQ ties (8 * k) c.levelDen * c.levelDen := Nat.mul_le_mul_right _ (by omega)
  omega

theorem brightnessLevel_bounds (c : Config) (k : Nat) : 1 ≤ brightnessLevel c k ∧ brightnessLevel c k ≤ 8 := by
  unfold brightnessLevel clamp
  omega

/-- Settles O38: the clamps are idle from 1 to 8, and each tie rule rounds to 0 up to its own threshold. -/
theorem brightnessByteIsOneToEight : Obligations.BrightnessByteIsOneToEight := by
  unfold Obligations.BrightnessByteIsOneToEight
  intro c k hden hk
  obtain ⟨hlow, hhigh⟩ := brightnessLevel_bounds c k
  have hle := roundQ_level_le c.roundTies hden hk
  have htwo : 2 * (8 * k) = 16 * k := by omega
  refine ⟨hlow, hhigh, hle, fun hne => ?_, fun hties => ⟨?_, ?_⟩, fun hties => ?_⟩
  · unfold brightnessLevel clamp
    omega
  · rw [brightnessLevel, hties, roundQ_halfUp _ hden, htwo]
  · rw [hties, roundQ_halfUp_eq_zero_iff hden, htwo]
  · rw [hties, roundQ_halfEven_eq_zero_iff hden, htwo]

/-! ## The level the reader answers for a brightness byte (log entry 8) -/

/-- A byte that a level sends is read as a level that sends it. -/
theorem exists_levelOf {k : Nat} (hk : k ≤ c.levelDen) :
    ∃ k', levelOf c (brightnessLevel c k) = some k' ∧ k' ≤ c.levelDen ∧
      brightnessLevel c k' = brightnessLevel c k := by
  have hpos : brightnessLevel c k ≠ 0 := by
    have := (brightnessLevel_bounds c k).1
    omega
  have hfound : ((List.range (c.levelDen + 1)).find? (fun k' => brightnessLevel c k' == brightnessLevel c k)).isSome :=
    List.find?_isSome.2 ⟨k, List.mem_range.2 (by omega), beq_self_eq_true _⟩
  obtain ⟨k', hk'⟩ := Option.isSome_iff_exists.1 hfound
  have hmem := List.mem_range.1 (List.mem_of_find?_eq_some hk')
  have hsame := List.find?_some hk'
  exact ⟨k', by rw [levelOf, if_neg hpos, hk'], by omega, beq_iff_eq.1 hsame⟩

/-! ## The Bit-Packer read backwards (R87, R88) -/

theorem mul_add_div_of_lt (m : Nat) {n j : Nat} (hj : j < n) : (m * n + j) / n = m := by
  rw [Nat.mul_comm, Nat.mul_add_div (by omega), Nat.div_eq_of_lt hj, Nat.add_zero]

theorem mul_add_mod_of_lt (m : Nat) {n j : Nat} (hj : j < n) : (m * n + j) % n = j := by
  rw [Nat.mul_add_mod', Nat.mod_eq_of_lt hj]

/-- A table of m rows of n entries, entry by entry. -/
theorem flatMap_range_map_range {α : Type} (m n : Nat) (f : Nat → Nat → α) :
    (List.range m).flatMap (fun i => (List.range n).map (f i)) =
      (List.range (m * n)).map (fun k => f (k / n) (k % n)) := by
  induction m with
  | zero => simp
  | succ m ih =>
    rw [List.range_succ, List.flatMap_append, ih, Nat.succ_mul, List.range_add, List.map_append, List.map_map,
      List.flatMap_singleton]
    refine congrArg _ (List.map_congr_left fun j hj => ?_)
    have hj : j < n := List.mem_range.1 hj
    rw [Function.comp_apply, mul_add_div_of_lt m hj, mul_add_mod_of_lt m hj]

/-- The sum of chosen powers of two is the number with the chosen bits. -/
theorem sum_two_pow_eq_ofBits (f : Nat → Bool) (n : Nat) :
    ((List.range n).map (fun i => if f i then 2 ^ i else 0)).sum = Nat.ofBits (fun i : Fin n => f i) := by
  induction n generalizing f with
  | zero => rfl
  | succ n ih =>
    have hdouble : ∀ i, (if f (i + 1) then 2 ^ (i + 1) else 0) = 2 * (if f (i + 1) then 2 ^ i else 0) := by
      intro i
      rw [mul_ite, Nat.pow_succ', Nat.mul_zero]
    have htail := ih (fun i => f (i + 1))
    rw [List.range_succ_eq_map, List.map_cons, List.sum_cons, List.map_map, Nat.ofBits_succ]
    simp only [Function.comp_def, Nat.succ_eq_add_one, hdouble, List.sum_map_mul_left, htail]
    cases h0 : f 0 <;> simp [h0, Nat.add_comm]

theorem getLsbD_packByte (b : Bitmap) (x p : Nat) {i : Nat} (hi : i < 8) :
    (packByte b x p).getLsbD i = isSet (pixel b x (8 * p + i)) := by
  rw [packByte, sum_two_pow_eq_ofBits (fun i => isSet (pixel b x (8 * p + i))), BitVec.getLsbD_ofNat,
    Nat.testBit_ofBits_lt _ i hi, decide_eq_true hi, Bool.true_and]

theorem packBytes_eq_map (b : Bitmap) (w h : Nat) :
    packBytes b w h = (List.range (w * (h / 8))).map (fun k => packByte b (k / (h / 8)) (k % (h / 8))) :=
  flatMap_range_map_range w (h / 8) (packByte b)

theorem length_packBytes (b : Bitmap) (w h : Nat) : (packBytes b w h).length = w * (h / 8) := by
  simp [packBytes_eq_map]

/-- R87: the byte of column x and page p stands at x·(h/8) + p. -/
theorem getD_packBytes (b : Bitmap) {w h x p : Nat} (hx : x < w) (hp : p < h / 8) :
    (packBytes b w h).getD (x * (h / 8) + p) 0 = packByte b x p := by
  have hlt : x * (h / 8) + p < w * (h / 8) := by
    have : (x + 1) * (h / 8) ≤ w * (h / 8) := Nat.mul_le_mul_right _ hx
    rw [Nat.succ_mul] at this
    omega
  simp [packBytes_eq_map, List.getD_eq_getElem?_getD, hlt, mul_add_div_of_lt x hp, mul_add_mod_of_lt x hp]

/-- R88: the bit of row y in the bytes of column x is set where the pixel is. -/
theorem getLsbD_packBytes (b : Bitmap) {w h x y : Nat} (hx : x < w) (hy : y < 8 * (h / 8)) :
    ((packBytes b w h).getD (x * (h / 8) + y / 8) 0).getLsbD (y % 8) = isSet (pixel b x y) := by
  rw [getD_packBytes b hx (by omega), getLsbD_packByte b x (y / 8) (Nat.mod_lt y (by omega)), Nat.div_add_mod]

/-- The bitmap without the intensities a packet does not carry (R88): 1 where a pixel is set, else 0. -/
def onOff (b : Bitmap) : Bitmap := { b with pix := b.pix.map (fun p => if isSet p then 1 else 0) }

theorem pixel_onOff (b : Bitmap) (x y : Nat) : pixel (onOff b) x y = if isSet (pixel b x y) then 1 else 0 :=
  List.getD_map b.pix 0 (fun p => if isSet p then 1 else 0)

theorem isSet_pixel_onOff (b : Bitmap) (x y : Nat) : isSet (pixel (onOff b) x y) = isSet (pixel b x y) := by
  rw [pixel_onOff]
  cases isSet (pixel b x y) <;> rfl

/-- Packing sees of a bitmap only which pixels are set (R88). -/
theorem packBytes_onOff (b : Bitmap) (w h : Nat) : packBytes (onOff b) w h = packBytes b w h := by
  simp only [packBytes, packByte, isSet_pixel_onOff]

/-- A bitmap of the size it says holds its pixels row by row (R31). -/
theorem pix_eq_flatMap_pixel {b : Bitmap} (hs : b.pix.length = b.w * b.h) :
    b.pix = (List.range b.h).flatMap (fun y => (List.range b.w).map (fun x => pixel b x y)) := by
  rw [flatMap_range_map_range b.h b.w (fun y x => pixel b x y)]
  refine List.ext_getElem (by simp [hs, Nat.mul_comm]) fun k hk _ => ?_
  simp [pixel, Nat.div_add_mod', hk]

/-- R88: a packing is read back as the bitmap it shows. -/
theorem unpackBytes_packBytes {b : Bitmap} (h8 : b.h % 8 = 0) (hs : b.pix.length = b.w * b.h) :
    unpackBytes (packBytes b b.w b.h) b.w (b.h / 8) = onOff b := by
  have hh : 8 * (b.h / 8) = b.h := by omega
  have hpix : (onOff b).pix =
      (List.range b.h).flatMap (fun y => (List.range b.w).map (fun x => pixel (onOff b) x y)) :=
    pix_eq_flatMap_pixel (by simpa [onOff] using hs)
  have hsame : (unpackBytes (packBytes b b.w b.h) b.w (b.h / 8)).pix = (onOff b).pix := by
    rw [hpix, unpackBytes, hh]
    refine List.flatMap_congr fun y hy => List.map_congr_left fun x hx => ?_
    have hy : y < 8 * (b.h / 8) := by simpa [hh] using hy
    rw [getLsbD_packBytes b (List.mem_range.1 hx) hy, pixel_onOff]
  rw [unpackBytes, hh] at hsame ⊢
  exact congrArg (Bitmap.mk b.w b.h) hsame

/-! ## What a packet does not carry (log entry 8) -/

theorem canonical_moveCursor (m n : Nat) : canonical c (.moveCursor m n) = .moveCursor m (8 * (n / 8) : Nat) := by
  rw [canonical, Nat.mul_comm]
  push_cast
  rfl

theorem canonical_setBrightness {k k' : Nat} (h : levelOf c (brightnessLevel c k) = some k') :
    canonical c (.setBrightness k) = .setBrightness k' := by
  rw [canonical, Int.toNat_natCast, h, Option.getD_some]

theorem canonical_showImage (b : Bitmap) (w h : Int) :
    canonical c (.showImage b w h) = .showImage (onOff b) w h := rfl

theorem canonical_scroll (m n : Nat) (t sp : Int) :
    canonical c (.scroll m n t sp) = .scroll (scrollAddr c m n / (c.dispH / 8) : Nat)
      (8 * (scrollAddr c m n % (c.dispH / 8)) : Nat) t sp := rfl

/-! ## The operands of a packet read back (R53, R54, R55, R88) -/

theorem ofLe16_lo8_hi8 {v : Nat} (h : v ≤ 65535) : ofLe16 (lo8 v) (hi8 v) = v := by
  obtain ⟨-, -, -, hback⟩ := littleEndianFieldHoldsItsValue v h
  exact hback

theorem readF1_append {x p : Nat} (hx : x ≤ 65535) (hp : p ≤ 65535) (more : Bytes) :
    readF1 (le16 x ++ le16 p ++ more) = .ok (.moveCursor x (8 * p : Nat), more) := by
  simp [le16, readF1, ofLe16_lo8_hi8 hx, ofLe16_lo8_hi8 hp]

theorem readF2_append {k : Nat} (hk : k ≤ c.levelDen) (more : Bytes) :
    readF2 c ([BitVec.ofNat 8 (brightnessLevel c k)] ++ more) =
      .ok (canonical c (.setBrightness k), more) := by
  obtain ⟨k', hk', -, -⟩ := exists_levelOf hk
  have hbyte : brightnessLevel c k % 256 = brightnessLevel c k := by
    have := (brightnessLevel_bounds c k).2
    omega
  rw [canonical_setBrightness hk']
  simp [readF2, hbyte, hk']

theorem readF3_append {b : Bitmap} (m : Byte) (h8 : b.h % 8 = 0) (hs : b.pix.length = b.w * b.h) (hw : b.w ≤ 65535)
    (hp : b.h / 8 ≤ 65535) (more : Bytes) :
    readF3 (le16 b.w ++ le16 (b.h / 8) ++ [m] ++ packBytes b b.w b.h ++ more) =
      .ok (.showImage (onOff b) b.w b.h, more) := by
  have hlen := length_packBytes b b.w b.h
  have hh : 8 * (b.h / 8) = b.h := by omega
  simp only [le16, List.cons_append, List.nil_append, readF3, ofLe16_lo8_hi8 hw, ofLe16_lo8_hi8 hp]
  rw [if_neg (by simp [hlen]), List.take_left' hlen, List.drop_left' hlen, unpackBytes_packBytes h8 hs, hh]

theorem readF4_append {a n sp : Nat} (ha : a ≤ 65535) (hn : n ≤ 65535) (hsp : sp ≤ 255) (more : Bytes) :
    readF4 c (le16 a ++ le16 n ++ [BitVec.ofNat 8 sp] ++ more) =
      .ok (.scroll (a / (c.dispH / 8) : Nat) (8 * (a % (c.dispH / 8)) : Nat) n sp, more) := by
  have hbyte : sp % 256 = sp := by omega
  simp [le16, readF4, ofLe16_lo8_hi8 ha, ofLe16_lo8_hi8 hn, hbyte]

/-! ## The operations that have a packet (R51, R56) -/

theorem ite_violation_eq_none_iff {p : Prop} [Decidable p] {k : Cause} {v : Option Cause} :
    (if p then some k else v) = none ↔ ¬ p ∧ v = none := by
  split_ifs with hp <;> simp [hp]

theorem violationMoveCursor_eq_none_iff {x y : Int} :
    violationMoveCursor x y = none ↔ 0 ≤ x ∧ x ≤ 65535 ∧ 0 ≤ y ∧ y / 8 ≤ 65535 := by
  simp only [violationMoveCursor, ite_violation_eq_none_iff, not_or, not_lt, and_true, and_assoc]

theorem violationSetBrightness_eq_none_iff {l : Int} :
    violationSetBrightness c l = none ↔ 0 ≤ l ∧ l ≤ c.levelDen := by
  simp only [violationSetBrightness, ite_violation_eq_none_iff, not_or, not_lt, and_true]

theorem sized_iff {b : Bitmap} {w h : Int} :
    sized b w h = true ↔ (b.w : Int) = w ∧ (b.h : Int) = h ∧ b.pix.length = b.w * b.h := by
  simp [sized, and_assoc]

theorem violationShowImage_eq_none_iff {b : Bitmap} {w h : Int} :
    violationShowImage b w h = none ↔
      h % 8 = 0 ∧ sized b w h = true ∧ 0 ≤ w ∧ w ≤ 65535 ∧ 0 ≤ h ∧ h / 8 ≤ 65535 := by
  simp only [violationShowImage, ite_violation_eq_none_iff, ne_eq, not_not, Bool.not_eq_false, not_or, not_lt, and_true,
    and_assoc]

theorem violationScroll_eq_none_iff {x y t sp : Int} :
    violationScroll c x y t sp = none ↔
      0 ≤ x ∧ 0 ≤ y ∧ x * c.dispH / 8 + y / 8 ≤ 65535 ∧ 0 ≤ t ∧ t ≤ 65535 ∧ 0 ≤ sp ∧ sp ≤ 255 := by
  simp only [violationScroll, ite_violation_eq_none_iff, not_or, not_lt, and_true, and_assoc]

theorem encode_moveCursor_iff {x y : Int} :
    encode c (.moveCursor x y) = some pkt ↔
      ∃ m n : Nat, x = m ∧ y = n ∧ m ≤ 65535 ∧ n / 8 ≤ 65535 ∧ pkt = cursorPacket c m n := by
  constructor
  · intro h
    simp only [encode] at h
    split at h
    · cases h
    · cases h
      obtain ⟨hx, hx', hy, hy'⟩ := violationMoveCursor_eq_none_iff.1 ‹_›
      exact ⟨x.toNat, y.toNat, by omega, by omega, by omega, by omega, rfl⟩
  · rintro ⟨m, n, rfl, rfl, hm, hn, rfl⟩
    have hv : violationMoveCursor m n = none := violationMoveCursor_eq_none_iff.2 (by omega)
    simp [encode, hv]

theorem encode_setBrightness_iff {l : Int} :
    encode c (.setBrightness l) = some pkt ↔ ∃ k : Nat, l = k ∧ k ≤ c.levelDen ∧ pkt = brightnessPacket c k := by
  constructor
  · intro h
    simp only [encode] at h
    split at h
    · cases h
    · cases h
      obtain ⟨hl, hl'⟩ := violationSetBrightness_eq_none_iff.1 ‹_›
      exact ⟨l.toNat, by omega, by omega, rfl⟩
  · rintro ⟨k, rfl, hk, rfl⟩
    have hv : violationSetBrightness c k = none := violationSetBrightness_eq_none_iff.2 (by omega)
    simp [encode, hv]

theorem encode_showImage_iff {b : Bitmap} {w h : Int} :
    encode c (.showImage b w h) = some pkt ↔
      w = b.w ∧ h = b.h ∧ b.h % 8 = 0 ∧ b.pix.length = b.w * b.h ∧ b.w ≤ 65535 ∧ b.h / 8 ≤ 65535 ∧
        pkt = imagePacket c b b.w b.h := by
  constructor
  · intro he
    simp only [encode] at he
    split at he
    · cases he
    · cases he
      obtain ⟨h8, hs, hw, hw', hh, hh'⟩ := violationShowImage_eq_none_iff.1 ‹_›
      obtain ⟨rfl, rfl, hlen⟩ := sized_iff.1 hs
      exact ⟨rfl, rfl, by omega, hlen, by omega, by omega, rfl⟩
  · rintro ⟨rfl, rfl, h8, hlen, hw, hp, rfl⟩
    have hs : sized b b.w b.h = true := sized_iff.2 ⟨rfl, rfl, hlen⟩
    have hv : violationShowImage b b.w b.h = none :=
      violationShowImage_eq_none_iff.2 ⟨by omega, hs, by omega, by omega, by omega, by omega⟩
    simp [encode, hv]

theorem natCast_scrollAddr (m n : Nat) : (m : Int) * c.dispH / 8 + (n : Int) / 8 = scrollAddr c m n := by
  simp [scrollAddr]

theorem encode_scroll_iff {x y t sp : Int} :
    encode c (.scroll x y t sp) = some pkt ↔
      ∃ m n k v : Nat, x = m ∧ y = n ∧ t = k ∧ sp = v ∧ scrollAddr c m n ≤ 65535 ∧ k ≤ 65535 ∧ v ≤ 255 ∧
        pkt = scrollPacket c m n k v := by
  constructor
  · intro h
    simp only [encode] at h
    split at h
    · cases h
    · cases h
      obtain ⟨hx, hy, ha, ht, ht', hsp, hsp'⟩ := violationScroll_eq_none_iff.1 ‹_›
      lift x to Nat using hx
      lift y to Nat using hy
      rw [natCast_scrollAddr] at ha
      exact ⟨x, y, t.toNat, sp.toNat, rfl, rfl, by omega, by omega, by omega, by omega, by omega, rfl⟩
  · rintro ⟨m, n, k, v, rfl, rfl, rfl, rfl, ha, hk, hv, rfl⟩
    have hnone : violationScroll c m n k v = none := by
      rw [violationScroll_eq_none_iff, natCast_scrollAddr]
      omega
    simp [encode, hnone]

/-- A packet is an opcode string and operands which that opcode's form reads as the operation (R51, R57). -/
theorem exists_form_of_encode (h : encode c i = some pkt) :
    ∃ form ∈ packetForms c, ∃ operands, pkt = form.1 ++ operands ∧
      ∀ more, form.2 (operands ++ more) = .ok (canonical c i, more) := by
  cases i with
  | reset | clear | sleep | wake =>
    cases h
    exact ⟨(_, readF0 _), by simp [packetForms, canonical], [], (List.append_nil _).symm, fun _ => rfl⟩
  | moveCursor x y =>
    obtain ⟨m, n, rfl, rfl, hm, hn, rfl⟩ := encode_moveCursor_iff.1 h
    refine ⟨(c.opcCursor, readF1), by simp [packetForms], le16 m ++ le16 (n / 8), List.append_assoc _ _ _,
      fun more => ?_⟩
    rw [canonical_moveCursor]
    exact readF1_append hm hn more
  | setBrightness l =>
    obtain ⟨k, rfl, hk, rfl⟩ := encode_setBrightness_iff.1 h
    exact ⟨(c.opcBrightness, readF2 c), by simp [packetForms], _, rfl, fun more => readF2_append hk more⟩
  | showImage b w h' =>
    obtain ⟨rfl, rfl, h8, hs, hw, hp, rfl⟩ := encode_showImage_iff.1 h
    exact ⟨(c.opcImage, readF3), by simp [packetForms],
      le16 b.w ++ le16 (b.h / 8) ++ [c.imgMode] ++ packBytes b b.w b.h, by simp [imagePacket], fun more => readF3_append c.imgMode h8 hs hw hp more⟩
  | scroll x y t sp =>
    obtain ⟨m, n, k, v, rfl, rfl, rfl, rfl, ha, hk, hv, rfl⟩ := encode_scroll_iff.1 h
    exact ⟨(c.opcScroll, readF4 c), by simp [packetForms], le16 (scrollAddr c m n) ++ le16 k ++ [BitVec.ofNat 8 v],
      by simp [scrollPacket], fun more => readF4_append ha hk hv more⟩
  | pack | write | update | discardPrev | idleStep => cases h

/-- R58: the reader answers a packet's operation, but for what the packet does not carry, and leaves what follows. -/
theorem decode_append_of_encode (hc : c.Legal) (hfree : c.PrefixFree) (h : encode c i = some pkt) (more : Bytes) :
    decode c (pkt ++ more) = .ok (canonical c i, more) := by
  obtain ⟨form, hmem, operands, rfl, hread⟩ := exists_form_of_encode h
  rw [List.append_assoc, decode_append_of_form hc hfree hmem, hread]

/-- The position the reader answers for a scroll address has that address (R33, R55). -/
theorem scrollAddr_of_position (hc : c.legalSizes) (a : Nat) :
    scrollAddr c (a / (c.dispH / 8)) (8 * (a % (c.dispH / 8))) = a := by
  obtain ⟨-, -, hh, hh8, -, -⟩ := hc
  have hdiv : a / (c.dispH / 8) * c.dispH / 8 = a / (c.dispH / 8) * (c.dispH / 8) :=
    Nat.mul_div_assoc _ (Nat.dvd_of_mod_eq_zero hh8)
  rw [scrollAddr, hdiv, Nat.mul_div_cancel_left _ (by omega), Nat.div_add_mod']

/-- What an operation loses in its packet does not change the packet. -/
theorem encode_canonical (hc : c.Legal) (h : encode c i = some pkt) : encode c (canonical c i) = some pkt := by
  cases i with
  | moveCursor x y =>
    obtain ⟨m, n, rfl, rfl, hm, hn, rfl⟩ := encode_moveCursor_iff.1 h
    have hpage : 8 * (n / 8) / 8 = n / 8 := Nat.mul_div_cancel_left _ (by omega)
    rw [canonical_moveCursor]
    exact encode_moveCursor_iff.2 ⟨m, _, rfl, rfl, hm, by omega, by rw [cursorPacket, cursorPacket, hpage]⟩
  | setBrightness l =>
    obtain ⟨k, rfl, hk, rfl⟩ := encode_setBrightness_iff.1 h
    obtain ⟨k', hk', hle, hsame⟩ := exists_levelOf hk
    rw [canonical_setBrightness hk']
    exact encode_setBrightness_iff.2 ⟨k', rfl, hle, by rw [brightnessPacket, brightnessPacket, hsame]⟩
  | showImage b w h' =>
    obtain ⟨rfl, rfl, h8, hs, hw, hp, rfl⟩ := encode_showImage_iff.1 h
    have hlen : (onOff b).pix.length = b.w * b.h := by simpa [onOff] using hs
    have hpacket : imagePacket c (onOff b) b.w b.h = imagePacket c b b.w b.h := by
      rw [imagePacket, packBytes_onOff, imagePacket]
    rw [canonical_showImage]
    exact encode_showImage_iff.2 ⟨rfl, rfl, h8, hlen, hw, hp, hpacket.symm⟩
  | scroll x y t sp =>
    obtain ⟨m, n, k, v, rfl, rfl, rfl, rfl, ha, hk, hv, rfl⟩ := encode_scroll_iff.1 h
    obtain ⟨hsizes, -, -⟩ := hc
    have hsame := scrollAddr_of_position hsizes (scrollAddr c m n)
    rw [canonical_scroll]
    exact encode_scroll_iff.2 ⟨_, _, k, v, rfl, rfl, rfl, rfl, hsame.symm ▸ ha, hk, hv,
      by rw [scrollPacket, scrollPacket, hsame]⟩
  | _ => exact h

/-- Settles O57: an operation and its canonical form have one packet, which reads as both their canonical forms. -/
theorem packetsDecodeToTheirOperations : Obligations.PacketsDecodeToTheirOperations := by
  unfold Obligations.PacketsDecodeToTheirOperations
  intro c i pkt more hc hfree h
  have hcanon : encode c (canonical c i) = some pkt := encode_canonical hc h
  have hread := decode_append_of_encode hc hfree h more
  have hread' := decode_append_of_encode hc hfree hcanon more
  have hpair := Except.ok.inj (hread'.symm.trans hread)
  exact ⟨hread, hcanon, congrArg Prod.fst hpair⟩

/-! ## WIRE (R58) -/

theorem readWire_of_decode {bs rest : Bytes} {is : List Instr} {k : Nat} (hd : decode c bs = .ok (i, rest))
    (hr : readWire c k rest = .ok is) : readWire c (k + 1) bs = .ok (i :: is) := by
  cases bs with
  | nil => cases hd
  | cons b bs => simp only [readWire, hd, hr]

/-- Settles O58, by induction on the packets: each is read off the front of the rest (`decode_append_of_encode`). -/
theorem wireIsCutIntoItsPackets : Obligations.WireIsCutIntoItsPackets := by
  unfold Obligations.WireIsCutIntoItsPackets
  intro c l hc hfree h
  induction l with
  | nil => rfl
  | cons x l ih =>
    obtain ⟨hx, hl⟩ := List.forall_mem_cons.1 h
    exact readWire_of_decode (decode_append_of_encode hc hfree hx _) (ih hl)

/-- Settles O55, by running the reader on each word. -/
theorem tableWordsDecode : Obligations.TableWordsDecode := by
  unfold Obligations.TableWordsDecode
  decide

/-- Settles O56: the strings are the literals of `Config.default`. -/
theorem defaultOpcodesArePrefixFree : Obligations.DefaultOpcodesArePrefixFree := by
  unfold Obligations.DefaultOpcodesArePrefixFree
  decide

/-! ## The chunks of a packet (R60, R71) -/

theorem length_chunks (n : Nat) (pkt : Bytes) : (chunks n pkt).length = (pkt.length + n - 1) / n := by
  simp [chunks]

theorem length_chunkAt (n : Nat) (pkt : Bytes) (off : Nat) :
    (chunkAt n pkt off).length = min n (pkt.length - off) := by
  simp [chunkAt]

theorem exists_of_chunks_getElem? {n j : Nat} {ch : Bytes} (h : (chunks n pkt)[j]? = some ch) :
    j < (pkt.length + n - 1) / n ∧ ch = chunkAt n pkt (j * n) := by
  obtain ⟨hj, rfl⟩ := List.getElem?_eq_some_iff.1 h
  exact ⟨length_chunks n pkt ▸ hj, by simp [chunks]⟩

/-- The first m chunks are the first m·N bytes. -/
theorem flatten_map_chunkAt (n : Nat) (pkt : Bytes) (m : Nat) :
    ((List.range m).map (fun j => chunkAt n pkt (j * n))).flatten = pkt.take (m * n) := by
  induction m with
  | zero => simp
  | succ m ih =>
    rw [List.range_succ, List.map_append, List.flatten_append, ih, List.map_singleton, List.flatten_singleton,
      Nat.succ_mul, List.take_add, chunkAt]

/-- A chunk begins inside its packet. -/
theorem lt_count_iff {n j len : Nat} (hn : 1 ≤ n) : j < (len + n - 1) / n ↔ j * n < len := by
  rw [← Nat.succ_le_iff, Nat.le_div_iff_mul_le hn, Nat.succ_mul]
  omega

/-- Settles O27: the first m chunks are the first m·N bytes, and a chunk is followed by another only where N bytes and
more are left. -/
theorem chunksArePacketCutEveryN : Obligations.ChunksArePacketCutEveryN := by
  unfold Obligations.ChunksArePacketCutEveryN
  intro n pkt hn
  refine ⟨?_, length_chunks n pkt, fun j ch h => ?_⟩
  · have hall : pkt.length ≤ (pkt.length + n - 1) / n * n :=
      Nat.le_of_not_lt fun hlt => lt_irrefl _ ((lt_count_iff hn).2 hlt)
    rw [chunks, flatten_map_chunkAt, List.take_of_length_le hall]
  · obtain ⟨hj, rfl⟩ := exists_of_chunks_getElem? h
    have hoff : j * n < pkt.length := (lt_count_iff hn).1 hj
    rw [length_chunkAt]
    refine ⟨by omega, by omega, fun hnext => ?_⟩
    have hoff' : (j + 1) * n < pkt.length := (lt_count_iff hn).1 (length_chunks n pkt ▸ hnext)
    rw [Nat.succ_mul] at hoff'
    omega

/-! ## The host command port (R62) -/

theorem decodeCommand_of_unselected {cmd : HostCommand} (h : 12 ≤ cmd.selector.val) :
    decodeCommand cmd = .error .noSuchSelector := by
  have hlt := cmd.selector.isLt
  unfold decodeCommand
  interval_cases cmd.selector.val <;> rfl

/-- Settles O12: such a command decodes to no operation, so the host's move is refused. -/
theorem selectorsTwelveToFifteenAreRefused : Obligations.SelectorsTwelveToFifteenAreRefused := by
  unfold Obligations.SelectorsTwelveToFifteenAreRefused
  intro s cmd rest h
  have hdec := decodeCommand_of_unselected h
  exact ⟨hdec, fun hd hs hh hc => step_of_reject hd hs hh hc hdec⟩

theorem selector_le_of_encodeCommand {cmd : HostCommand} (h : encodeCommand i = some cmd) :
    cmd.selector.val ≤ 11 := by
  cases i with
  | idleStep b => cases h
  | _ =>
    cases h
    simp [bareCommand]

/-- A command read as an operation carries the number that issues it. -/
theorem exists_selector_of_decodeCommand {cmd : HostCommand} (h : decodeCommand cmd = .ok i) :
    ∃ back, encodeCommand i = some back ∧ back.selector = cmd.selector := by
  unfold decodeCommand at h
  split at h <;> cases h
  all_goals exact ⟨_, rfl, Fin.ext (Eq.symm ‹_›)⟩

theorem selector_of_some {sent : HostCommand} {n : Fin 16} (hn : sent.selector = n) :
    ∀ cmd, some sent = some cmd → cmd.selector = n := by
  rintro _ ⟨⟩
  exact hn

/-- Settles O59: each command is written out with its number, `exists_command` reads it back, and a command that decodes
carries its operation's number. -/
theorem commandPortKeepsEveryOperand : Obligations.CommandPortKeepsEveryOperand := by
  unfold Obligations.CommandPortKeepsEveryOperand
  refine ⟨⟨selector_of_some rfl, selector_of_some rfl, fun _ _ => selector_of_some rfl, fun _ => selector_of_some rfl,
    fun _ _ _ => selector_of_some rfl, fun _ _ _ _ => selector_of_some rfl, selector_of_some rfl, selector_of_some rfl,
    fun _ _ _ => selector_of_some rfl, fun _ => selector_of_some rfl, fun _ => selector_of_some rfl,
    selector_of_some rfl⟩, fun i hi => ?_, fun b => rfl, fun cmd i h => exists_selector_of_decodeCommand h⟩
  obtain ⟨cmd, hcmd, hdec⟩ := exists_command hi
  exact ⟨cmd, hcmd, selector_le_of_encodeCommand hcmd, hdec⟩

end Sys2Proof.Machine
end

section
/-! # The family of 40_transport: what each phase of a TX does, and how long a packet takes on an unstalled link

Each phase has one equation for `performTx`; the statements about one step are these equations under `step_of_tx`. On
an unstalled link four of them make a chunk (`run_chunk`), and an induction over the chunks still to send makes a packet
(`run_chunks`). -/

namespace Sys2Proof.Machine

variable {s : State} {pkt : Bytes} {rest : List MicroOp} {after : TxPhase} {l : List Inputs} {n : Nat}

/-! ## The equation of each phase (R72 to R78) -/

theorem txPoll_of_ready (h : s.inp.ready = true) :
    txPoll after s = { s with trace := s.trace ++ [.poll true], txPhase := after } := by
  simp [txPoll, h]

theorem txPoll_of_not_ready (h : s.inp.ready = false) :
    txPoll after s = { s with trace := s.trace ++ [.poll false] } := by
  simp [txPoll, h]

theorem performTx_pollPre (hp : s.txPhase = .pollPre) : performTx pkt s = txPoll .write s := by
  simp [performTx, hp]

theorem performTx_pollPost (hp : s.txPhase = .pollPost) : performTx pkt s = txPoll .flush s := by
  simp [performTx, hp]

theorem performTx_idle_nil (hp : s.txPhase = .idle) : performTx [] s = s.pop := by
  simp [performTx, hp, txBegin]

theorem performTx_idle (hp : s.txPhase = .idle) (hne : pkt ≠ []) :
    performTx pkt s = { s with txPkt := pkt, txOff := 0, txPhase := .pollPre } := by
  simp [performTx, hp, txBegin, hne]

theorem performTx_write (hp : s.txPhase = .write) (he : s.inp.chErr = false) :
    performTx pkt s =
      { s with
        outbuf := s.outbuf ++ s.chunkNow
        trace := s.trace ++ [.write s.chunkNow]
        txPhase := .pollPost } := by
  simp [performTx, hp, txWrite, he]

theorem performTx_flush (hp : s.txPhase = .flush) (he : s.inp.chErr = false) :
    performTx pkt s = s.flushed.endChunk := by
  simp [performTx, hp, txFlush, he]

theorem performTx_write_error (hp : s.txPhase = .write) (he : s.inp.chErr = true) :
    performTx pkt s = s.raiseTransportError .write (s.outbuf ++ s.chunkNow) := by
  simp [performTx, hp, txWrite, he]

theorem performTx_flush_error (hp : s.txPhase = .flush) (he : s.inp.chErr = true) :
    performTx pkt s = s.raiseTransportError .flush s.outbuf := by
  simp [performTx, hp, txFlush, he]

/-! ### The end of a chunk (R77) -/

theorem nextOff_of_lt (h : s.txOff + s.cfg.chunk < s.txPkt.length) : s.nextOff = s.txOff + s.cfg.chunk :=
  Nat.min_eq_left h.le

theorem nextOff_of_le (h : s.txPkt.length ≤ s.txOff + s.cfg.chunk) : s.nextOff = s.txPkt.length :=
  Nat.min_eq_right h

theorem endChunk_of_lt (h : s.txOff < s.txPkt.length) : s.endChunk = { s with txPhase := .pollPre } := by
  simp [State.endChunk, h]

theorem endChunk_of_eq (h : s.txOff = s.txPkt.length) :
    s.endChunk = { s with txPkt := [], txOff := 0, txPhase := .idle, seq := s.seq.tail } := by
  simp [State.endChunk, h]

theorem endChunk_inputs (s : State) : s.endChunk.inputs = s.inputs := by
  unfold State.endChunk
  split <;> rfl

theorem endChunk_with_inputs (s : State) (l : List Inputs) :
    State.endChunk { s with inputs := l } = { s.endChunk with inputs := l } := by
  unfold State.endChunk
  split <;> rfl

/-! ## One step of a TX -/

/-- A TX at the head of SEQ is performed, unless the channel drains. -/
theorem step_of_tx (hd : s.drainDue = false) (hs : s.seq = .tx pkt :: rest) :
    step s = .next (performTx pkt s).tick :=
  step_of_seq hd hs

/-- Settles O20: by the equations of T_IDLE. -/
theorem txStartLoadsThePacket : Obligations.TxStartLoadsThePacket := by
  unfold Obligations.TxStartLoadsThePacket
  intro s pkt rest hd hs hp
  rw [step_of_tx hd hs]
  refine ⟨fun hnil => ?_, fun hne => ?_⟩
  · rw [hnil, performTx_idle_nil hp, State.pop, hs, List.tail_cons]
  · rw [performTx_idle hp hne]

/-- Settles O21: both waits are the same poll. -/
theorem pollSamplesReadyOnce : Obligations.PollSamplesReadyOnce := by
  unfold Obligations.PollSamplesReadyOnce
  intro s pkt rest hd hs
  rw [step_of_tx hd hs]
  refine ⟨fun hp hr => ?_, fun hp hr => ?_, fun hp hr => ?_⟩
  · rw [performTx_pollPre hp, txPoll_of_ready hr]
  · rw [performTx_pollPost hp, txPoll_of_ready hr]
  · obtain hp | hp := hp
    · rw [performTx_pollPre hp, txPoll_of_not_ready hr]
    · rw [performTx_pollPost hp, txPoll_of_not_ready hr]

/-- Settles O22: by the equation of T_WRITE. -/
theorem writeStepAppendsTheChunk : Obligations.WriteStepAppendsTheChunk := by
  unfold Obligations.WriteStepAppendsTheChunk
  intro s pkt rest hd hs hp he
  rw [step_of_tx hd hs, performTx_write hp he, State.chunkNow, chunkAt]

/-- Settles O23: the flush moves TX_OFF on, which is then inside the packet or its end. -/
theorem flushStepSendsAndAdvances : Obligations.FlushStepSendsAndAdvances := by
  unfold Obligations.FlushStepSendsAndAdvances
  intro s pkt rest hd hs hp he
  rw [step_of_tx hd hs, performTx_flush hp he]
  refine ⟨fun hlt => ?_, fun hle => ?_⟩
  · have hnext := nextOff_of_lt hlt
    have hinside : s.flushed.txOff < s.flushed.txPkt.length := by simpa [hnext] using hlt
    rw [endChunk_of_lt hinside, State.flushed, hnext]
  · have hend : s.flushed.txOff = s.flushed.txPkt.length := nextOff_of_le hle
    rw [endChunk_of_eq hend, State.flushed_seq, hs, List.tail_cons, State.flushed]

/-- Settles O24: both errors are the shared one; at a write the chunk is at risk too. -/
theorem transportErrorEndsTheOperation : Obligations.TransportErrorEndsTheOperation := by
  unfold Obligations.TransportErrorEndsTheOperation
  intro s pkt rest hd hs he
  rw [step_of_tx hd hs]
  refine ⟨fun hp => ?_, fun hp => ?_⟩
  · rw [performTx_write_error hp he, State.raiseTransportError, State.chunkNow, chunkAt]
  · rw [performTx_flush_error hp he, State.raiseTransportError]

/-- Settles O26: the host has the move, and the expansion of WRITE is its packet and DONE(OK). -/
theorem writeInstallsThePacket : Obligations.WriteInstallsThePacket := by
  unfold Obligations.WriteInstallsThePacket
  intro s packet hs hc
  rw [exec_write, issue_of_canIssue (canIssue_iff.2 ⟨hs, hc⟩)]
  rfl

/-! ## An unstalled link (R82) -/

/-- The coming n steps have their records of inputs listed, and at none of them does the link stall. -/
structure Unstalled (n : Nat) (l : List Inputs) : Prop where
  listed : n ≤ l.length
  smooth : l.all smooth = true

theorem smooth_iff {i : Inputs} : smooth i = true ↔ i.ready = true ∧ i.chErr = false ∧ i.drain = 0 := by
  simp [smooth, and_assoc]

theorem Unstalled.drop (k : Nat) (h : Unstalled (n + k) l) : Unstalled n (l.drop k) := by
  refine ⟨?_, List.all_eq_true.2 fun i hi => List.all_eq_true.1 h.smooth i (List.mem_of_mem_drop hi)⟩
  have hlen := h.listed
  rw [List.length_drop]
  omega

theorem Unstalled.tail (h : Unstalled (n + 1) l) : Unstalled n l.tail := by
  rw [← List.drop_one]
  exact h.drop 1

theorem Unstalled.exists_cons (h : Unstalled (n + 1) l) : ∃ i more, l = i :: more ∧ Machine.smooth i = true := by
  cases l with
  | nil => exact absurd h.listed (by simp)
  | cons i more => exact ⟨i, more, rfl, List.all_eq_true.1 h.smooth i List.mem_cons_self⟩

theorem Unstalled.smooth_inp (h : Unstalled (n + 1) s.inputs) : Machine.smooth s.inp = true := by
  obtain ⟨i, more, hl, hi⟩ := h.exists_cons
  simpa [State.inp, hl] using hi

theorem Unstalled.ready (h : Unstalled (n + 1) s.inputs) : s.inp.ready = true := by
  obtain ⟨hready, -, -⟩ := smooth_iff.1 h.smooth_inp
  exact hready

theorem Unstalled.chErr (h : Unstalled (n + 1) s.inputs) : s.inp.chErr = false := by
  obtain ⟨-, hchErr, -⟩ := smooth_iff.1 h.smooth_inp
  exact hchErr

theorem Unstalled.drainDue (h : Unstalled (n + 1) s.inputs) : s.drainDue = false := by
  obtain ⟨-, -, hdrain⟩ := smooth_iff.1 h.smooth_inp
  simp [State.drainDue, hdrain]

/-- A listed record is used up without a free one. -/
theorem Unstalled.tick (h : Unstalled (n + 1) s.inputs) : s.tick = { s with inputs := s.inputs.tail } := by
  obtain ⟨i, more, hl, -⟩ := h.exists_cons
  simp [State.tick, hl]

/-! ### The steps of one chunk -/

/-- A step of a TX on an unstalled link, by the equation of its phase. -/
theorem run_tx {t : State} (h : Unstalled (n + 1) s.inputs) (hs : s.seq = .tx pkt :: rest)
    (ht : performTx pkt s = t) (hin : t.inputs = s.inputs) :
    Sys2Proof.core.run (n + 1) s = Sys2Proof.core.run n { t with inputs := s.inputs.tail } := by
  have htick : t.tick = { t with inputs := s.inputs.tail } := by
    rw [← hin] at h ⊢
    exact h.tick
  rw [core_run_succ, step_of_tx h.drainDue hs, ht, htick]

theorem run_load (h : Unstalled (n + 1) s.inputs) (hs : s.seq = .tx pkt :: rest) (hp : s.txPhase = .idle)
    (hne : pkt ≠ []) :
    Sys2Proof.core.run (n + 1) s = Sys2Proof.core.run n
      { s with txPkt := pkt, txOff := 0, txPhase := .pollPre, inputs := s.inputs.tail } :=
  run_tx h hs (performTx_idle hp hne) rfl

theorem run_pollPre (h : Unstalled (n + 1) s.inputs) (hs : s.seq = .tx pkt :: rest) (hp : s.txPhase = .pollPre) :
    Sys2Proof.core.run (n + 1) s = Sys2Proof.core.run n
      { s with trace := s.trace ++ [.poll true], txPhase := .write, inputs := s.inputs.tail } :=
  run_tx h hs ((performTx_pollPre hp).trans (txPoll_of_ready h.ready)) rfl

theorem run_write (h : Unstalled (n + 1) s.inputs) (hs : s.seq = .tx pkt :: rest) (hp : s.txPhase = .write) :
    Sys2Proof.core.run (n + 1) s = Sys2Proof.core.run n
      { s with
        outbuf := s.outbuf ++ s.chunkNow
        trace := s.trace ++ [.write s.chunkNow]
        txPhase := .pollPost
        inputs := s.inputs.tail } :=
  run_tx h hs (performTx_write hp h.chErr) rfl

theorem run_pollPost (h : Unstalled (n + 1) s.inputs) (hs : s.seq = .tx pkt :: rest) (hp : s.txPhase = .pollPost) :
    Sys2Proof.core.run (n + 1) s = Sys2Proof.core.run n
      { s with trace := s.trace ++ [.poll true], txPhase := .flush, inputs := s.inputs.tail } :=
  run_tx h hs ((performTx_pollPost hp).trans (txPoll_of_ready h.ready)) rfl

theorem run_flush (h : Unstalled (n + 1) s.inputs) (hs : s.seq = .tx pkt :: rest) (hp : s.txPhase = .flush) :
    Sys2Proof.core.run (n + 1) s =
      Sys2Proof.core.run n (State.endChunk { s.flushed with inputs := s.inputs.tail }) := by
  rw [endChunk_with_inputs]
  exact run_tx h hs (performTx_flush hp h.chErr) (endChunk_inputs s.flushed)

/-- The current chunk has left with its four events, and four records of inputs are used up. -/
def State.chunkSent (s : State) : State :=
  { s with
    wire := s.wire ++ s.chunkNow
    outbuf := []
    trace := s.trace ++ chunkEvents s.chunkNow
    txOff := s.nextOff
    txPhase := .flush
    inputs := s.inputs.drop 4 }

/-- Four steps send the current chunk (R73 to R77). -/
theorem run_chunk (h : Unstalled (n + 4) s.inputs) (hs : s.seq = .tx pkt :: rest) (hp : s.txPhase = .pollPre)
    (hout : s.outbuf = []) :
    Sys2Proof.core.run (n + 4) s = Sys2Proof.core.run n s.chunkSent.endChunk := by
  refine Eq.trans (run_pollPre h hs hp) ?_
  refine Eq.trans (run_write h.tail hs rfl) ?_
  refine Eq.trans (run_pollPost h.tail.tail hs rfl) ?_
  refine Eq.trans (run_flush h.tail.tail.tail hs rfl) ?_
  have hdrop : s.inputs.tail.tail.tail.tail = s.inputs.drop 4 := by simp only [← List.drop_one, List.drop_drop]
  congr 2
  simp [State.chunkSent, State.flushed, chunkEvents, hout, hdrop, State.chunkNow, State.nextOff]

/-! ### The chunks still to send -/

/-- The bytes of TX_PKT from TX_OFF on. -/
def State.unsent (s : State) : Bytes := s.txPkt.drop s.txOff

/-- The packet's unsent bytes have left with the four events of each of their chunks, the head of SEQ is done, and the
transport registers are those of T_IDLE (R77, R82). -/
def State.packetSent (s : State) (l : List Inputs) : State :=
  { s with
    seq := s.seq.tail
    wire := s.wire ++ s.unsent
    trace := s.trace ++ (chunks s.cfg.chunk s.unsent).flatMap chunkEvents
    txPkt := []
    txOff := 0
    txPhase := .idle
    outbuf := []
    inputs := l }

@[simp] theorem chunks_nil (n : Nat) : chunks n [] = [] := by
  simpa [chunks] using Nat.eq_zero_or_pos n

/-- The chunks of a packet are its first N bytes and the chunks of what follows them. -/
theorem chunks_of_ne_nil (hn : 1 ≤ n) (hne : pkt ≠ []) : chunks n pkt = pkt.take n :: chunks n (pkt.drop n) := by
  obtain hle | hlt := le_or_gt pkt.length n
  · rw [chunks_of_length_le hne hle, List.take_of_length_le hle, List.drop_of_length_le hle, chunks_nil]
  · have hlen : (pkt.take n).length = n := List.length_take_of_le hlt.le
    have hfirst : chunks n (pkt.take n) = [pkt.take n] :=
      chunks_of_length_le (List.ne_nil_of_length_pos (by omega)) hlen.le
    calc chunks n pkt
      _ = chunks n (pkt.take n ++ pkt.drop n) := by rw [List.take_append_drop]
      _ = pkt.take n :: chunks n (pkt.drop n) := by rw [chunks_append hn (by rw [hlen]), hfirst, List.singleton_append]

theorem drop_unsent_eq_nil (hle : s.txPkt.length ≤ s.txOff + s.cfg.chunk) : s.unsent.drop s.cfg.chunk = [] := by
  simpa [State.unsent] using hle

theorem unsent_ne_nil (hoff : s.txOff < s.txPkt.length) : s.unsent ≠ [] := by
  simpa [State.unsent] using hoff

/-- The chunks of the unsent bytes are the current one and those of the bytes after it. -/
theorem chunks_unsent (hn : 1 ≤ s.cfg.chunk) (hoff : s.txOff < s.txPkt.length) :
    chunks s.cfg.chunk s.unsent = s.chunkNow :: chunks s.cfg.chunk (s.unsent.drop s.cfg.chunk) :=
  chunks_of_ne_nil hn (unsent_ne_nil hoff)

theorem chunkNow_append_drop_unsent (s : State) : s.chunkNow ++ s.unsent.drop s.cfg.chunk = s.unsent :=
  List.take_append_drop _ _

/-- Where the packet goes on, the block waits to write its next chunk (R77). -/
theorem endChunk_chunkSent_of_lt (hlt : s.txOff + s.cfg.chunk < s.txPkt.length) :
    s.chunkSent.endChunk = { s.chunkSent with txPhase := .pollPre } := by
  refine endChunk_of_lt ?_
  show s.nextOff < s.txPkt.length
  rwa [nextOff_of_lt hlt]

/-- The bytes after the current chunk are then those unsent. -/
theorem unsent_chunkSent_of_lt (hlt : s.txOff + s.cfg.chunk < s.txPkt.length) :
    s.chunkSent.unsent = s.unsent.drop s.cfg.chunk := by
  show s.txPkt.drop s.nextOff = _
  rw [nextOff_of_lt hlt, State.unsent, List.drop_drop]

/-- Sending the current chunk and then the rest is sending all that is unsent. -/
theorem packetSent_chunkSent (hn : 1 ≤ s.cfg.chunk) (hlt : s.txOff + s.cfg.chunk < s.txPkt.length) (l : List Inputs) :
    State.packetSent { s.chunkSent with txPhase := .pollPre } l = s.packetSent l := by
  have hcons := chunks_unsent hn (show s.txOff < s.txPkt.length by omega)
  have hrest : State.unsent { s.chunkSent with txPhase := .pollPre } = s.unsent.drop s.cfg.chunk :=
    unsent_chunkSent_of_lt hlt
  rw [State.packetSent, State.packetSent, hrest, hcons]
  simp [State.chunkSent, chunkNow_append_drop_unsent]

/-- The flush of the last chunk ends the packet. -/
theorem endChunk_chunkSent_of_le (hn : 1 ≤ s.cfg.chunk) (hoff : s.txOff < s.txPkt.length)
    (hle : s.txPkt.length ≤ s.txOff + s.cfg.chunk) :
    s.chunkSent.endChunk = s.packetSent (s.inputs.drop 4) := by
  have hlast := drop_unsent_eq_nil hle
  have hbytes : s.chunkNow = s.unsent := by simpa [hlast] using chunkNow_append_drop_unsent s
  rw [endChunk_of_eq (nextOff_of_le hle), State.packetSent, chunks_unsent hn hoff, hlast, ← hbytes]
  simp [State.chunkSent]

/-- On an unstalled link four steps send each of the chunks still to send; by induction on their number. -/
theorem run_chunks {k : Nat} (hn : 1 ≤ s.cfg.chunk) (hk : (chunks s.cfg.chunk s.unsent).length = k)
    (h : Unstalled (4 * k) s.inputs) (hs : s.seq = .tx pkt :: rest) (hp : s.txPhase = .pollPre) (hout : s.outbuf = [])
    (hoff : s.txOff < s.txPkt.length) :
    Sys2Proof.core.run (4 * k) s = .next (s.packetSent (s.inputs.drop (4 * k))) := by
  induction k generalizing s with
  | zero => simp [chunks_unsent hn hoff] at hk
  | succ k ih =>
    have hk' : (chunks s.cfg.chunk (s.unsent.drop s.cfg.chunk)).length = k := by
      simpa [chunks_unsent hn hoff] using hk
    refine Eq.trans (run_chunk h hs hp hout) ?_
    obtain hlt | hle := lt_or_ge (s.txOff + s.cfg.chunk) s.txPkt.length
    · rw [endChunk_chunkSent_of_lt hlt]
      have hinside : s.nextOff < s.txPkt.length := by rwa [nextOff_of_lt hlt]
      have hrest : (chunks s.cfg.chunk s.chunkSent.unsent).length = k := by rwa [unsent_chunkSent_of_lt hlt]
      refine Eq.trans (ih hn hrest (h.drop 4) hs rfl rfl hinside) ?_
      have hinputs : s.chunkSent.inputs.drop (4 * k) = s.inputs.drop (4 * (k + 1)) := by
        rw [State.chunkSent, List.drop_drop, Nat.mul_succ, Nat.add_comm 4]
      rw [packetSent_chunkSent hn hlt, hinputs]
    · obtain rfl : 0 = k := by simpa [drop_unsent_eq_nil hle] using hk'
      exact congrArg Host.Outcome.next (endChunk_chunkSent_of_le hn hoff hle)

/-- A quiet block that has loaded a packet and sent it is quiet again. -/
theorem packetSent_load (hq : TxQuiet s) (hs : s.seq = .tx pkt :: rest) (used l : List Inputs) :
    State.packetSent { s with txPkt := pkt, txOff := 0, txPhase := .pollPre, inputs := used } l =
      { s with
        seq := rest
        wire := s.wire ++ pkt
        trace := s.trace ++ (chunks s.cfg.chunk pkt).flatMap chunkEvents
        inputs := l } := by
  simp [State.packetSent, State.unsent, hq.phase, hq.pkt, hq.off, hq.out, hs]

/-- Settles O29: one step loads the packet, and all of its chunks are then to send. -/
theorem unstalledPacketTakesFourStepsAChunk : Obligations.UnstalledPacketTakesFourStepsAChunk := by
  unfold Obligations.UnstalledPacketTakesFourStepsAChunk
  intro s pkt rest hn hne hs hregs hp hlen hsmooth
  rw [← length_chunks, Nat.add_comm] at hlen ⊢
  have h : Unstalled (4 * (chunks s.cfg.chunk pkt).length + 1) s.inputs := ⟨hlen, hsmooth⟩
  have hq := txQuiet_of_phase hregs hp
  refine Eq.trans (run_load h hs hp hne) ?_
  refine Eq.trans (run_chunks hn rfl h.tail hs rfl hq.out (List.length_pos_iff.2 hne)) ?_
  rw [packetSent_load hq hs, List.drop_tail]

end Sys2Proof.Machine
end

section
/-! # The family of 41_bitpacker: the bits of a packing, and PACK as a host operation

A byte of the packing is determined by its eight pixels (`packByte_eq_iff`); two bitmaps are compared, and a blank or
full one is packed, byte by byte. -/

namespace Sys2Proof.Machine

variable {a b : Bitmap} {w h : Nat}

/-! ## The bits of a packing (R87, R88) -/

theorem isSet_iff_ne_zero (p : Pixel) : isSet p = true ↔ p ≠ 0 := by
  simp [isSet, Config.threshold, Nat.one_le_iff_ne_zero]

/-- A whole number of pages in w columns is an eighth of the pixels (R87). -/
theorem mul_pages (w : Nat) (h8 : h % 8 = 0) : w * (h / 8) = w * h / 8 :=
  (Nat.mul_div_assoc w (Nat.dvd_of_mod_eq_zero h8)).symm

/-- Settles O32: the byte of a pixel stands at `x·(h/8) + y/8`, and its bit `y mod 8` says whether the pixel is set. -/
theorem packedBitsAreTheSetPixels : Obligations.PackedBitsAreTheSetPixels := by
  unfold Obligations.PackedBitsAreTheSetPixels
  rintro b w h h8 rfl - -
  refine ⟨by rw [length_packBytes, mul_pages b.w h8], fun x y hx hy => ?_⟩
  rw [getLsbD_packBytes b hx (by omega), isSet_iff_ne_zero, pixel]

/-! ## Packings compared (R88, R89) -/

theorem packByte_eq_iff {x p : Nat} {v : Byte} :
    packByte b x p = v ↔ ∀ i < 8, isSet (pixel b x (8 * p + i)) = v.getLsbD i := by
  constructor
  · rintro rfl i hi
    exact (getLsbD_packByte b x p hi).symm
  · intro hbits
    exact BitVec.eq_of_getLsbD_eq fun i hi => (getLsbD_packByte b x p hi).trans (hbits i hi)

theorem packBytes_eq_iff (h8 : h % 8 = 0) :
    packBytes a w h = packBytes b w h ↔ ∀ x y, x < w → y < h → isSet (pixel a x y) = isSet (pixel b x y) := by
  constructor
  · intro heq x y hx hy
    have hpage : y < 8 * (h / 8) := by omega
    rw [← getLsbD_packBytes a hx hpage, heq, getLsbD_packBytes b hx hpage]
  · intro hsame
    refine List.flatMap_congr fun x hx => List.map_congr_left fun p hp => packByte_eq_iff.2 fun i hi => ?_
    have hx := List.mem_range.1 hx
    have hp := List.mem_range.1 hp
    rw [getLsbD_packByte b x p hi]
    exact hsame x (8 * p + i) hx (by omega)

/-- Settles O33: the packing and the set pixels determine each other byte by byte. -/
theorem samePackingIffSameSetPixels : Obligations.SamePackingIffSameSetPixels := by
  unfold Obligations.SamePackingIffSameSetPixels
  intro a b w h h8 _ _
  exact packBytes_eq_iff h8

/-! ## Blank, full and empty bitmaps (R90) -/

/-- The pixels inside a sized bitmap are in its list (R31). -/
theorem pixel_mem_pix {x y : Nat} (hs : sized b w h = true) (hx : x < w) (hy : y < h) : pixel b x y ∈ b.pix := by
  obtain ⟨hw, hh, hlen⟩ := sized_iff.1 hs
  obtain rfl : b.w = w := by omega
  have hrow : (y + 1) * b.w ≤ b.h * b.w := Nat.mul_le_mul_right _ (by omega)
  rw [Nat.succ_mul, Nat.mul_comm b.h, ← hlen] at hrow
  have hin : y * b.w + x < b.pix.length := by omega
  rw [pixel, List.getD_eq_getElem _ _ hin]
  exact List.getElem_mem hin

/-- Where all pixels are set every byte of the packing is FF, and where all are unset 00. -/
theorem packBytes_eq_replicate {v : Bool} (h8 : h % 8 = 0) (hs : sized b w h = true)
    (hall : ∀ p ∈ b.pix, isSet p = v) : packBytes b w h = List.replicate (w * h / 8) (BitVec.fill 8 v) := by
  refine List.eq_replicate_iff.2 ⟨by rw [length_packBytes, mul_pages w h8], fun byte hbyte => ?_⟩
  simp only [packBytes, List.mem_flatMap, List.mem_map, List.mem_range] at hbyte
  obtain ⟨x, hx, p, hp, rfl⟩ := hbyte
  refine packByte_eq_iff.2 fun i hi => ?_
  have hpixel := hall _ (pixel_mem_pix hs hx (show 8 * p + i < h by omega))
  rw [hpixel, BitVec.getLsbD_fill, decide_eq_true hi, Bool.and_true]

theorem packBytes_eq_nil (hempty : w = 0 ∨ h = 0) : packBytes b w h = [] := by
  refine List.eq_nil_of_length_eq_zero ?_
  rw [length_packBytes]
  obtain rfl | rfl := hempty
  · exact Nat.zero_mul _
  · exact Nat.mul_zero w

/-- Settles O34: a blank bitmap has all pixels unset, a full one all set, and the length is 0 where w or h is. -/
theorem packOfBlankAndFullBitmaps : Obligations.PackOfBlankAndFullBitmaps := by
  unfold Obligations.PackOfBlankAndFullBitmaps
  intro b w h h8 hs
  refine ⟨fun hblank => ?_, fun hfull => ?_, packBytes_eq_nil⟩
  · have hunset : ∀ p ∈ b.pix, isSet p = false := by simpa [blank] using hblank
    exact packBytes_eq_replicate h8 hs hunset
  · exact packBytes_eq_replicate h8 hs (List.all_eq_true.1 hfull)

/-! ## PACK as a host operation (R86, R162, R167) -/

/-- An issue with a check before it writes RESULT with the cause, or installs the list. -/
theorem issue_checked {s : State} (hc : s.canIssue = true) (v : Option Cause) (l : List MicroOp) :
    issue s (checked v l) = match v with
      | some k => .next (s.raiseContractViolation k)
      | none => .next (s.install l) := by
  rw [issue_of_canIssue hc]
  cases v <;> rfl

/-- R86's two checks, the size written out. -/
theorem violationPack_eq_ite (b : Bitmap) (w h : Int) :
    violationPack b w h =
      if h % 8 ≠ 0 then some .heightNotMult8
      else if (b.w : Int) ≠ w ∨ (b.h : Int) ≠ h ∨ b.pix.length ≠ b.w * b.h then some .bitmapSize
      else none := by
  have hsize : sized b w h = false ↔ (b.w : Int) ≠ w ∨ (b.h : Int) ≠ h ∨ b.pix.length ≠ b.w * b.h := by
    rw [← Bool.not_eq_true, sized_iff, not_and_or, not_and_or]
  simp only [violationPack, hsize]

/-- Settles O31: the host has the move, so the first check that fails answers, else the packing is installed. -/
theorem packReturnsPackedBytes : Obligations.PackReturnsPackedBytes := by
  unfold Obligations.PackReturnsPackedBytes
  intro s b w h hs hc
  rw [exec_pack, expandPack, issue_checked (canIssue_iff.2 ⟨hs, hc⟩), violationPack_eq_ite]
  split_ifs <;> rfl

end Sys2Proof.Machine
end

section
/-! # The family of 42_encoder: what each operation of the Protocol Encoder installs

Each operation issues its check and one packet (`issue_checked`). The check is put in the form the rule states
(`violation..._eq_ite`), and the packet's operands are read as the integers the host presents (`..._natCast`). -/

namespace Sys2Proof.Machine

variable {c : Config} {s : State}

/-! ## The packets, their operands as integers (R51, R52) -/

theorem le16_natCast (v : Nat) :
    le16 v = [BitVec.ofInt 8 ((v : Int) % 256), BitVec.ofInt 8 ((v : Int) / 256)] := by
  rw [le16, lo8, hi8, ← BitVec.ofInt_natCast, ← BitVec.ofInt_natCast, Int.natCast_mod, Int.natCast_div]
  rfl

theorem cursorPacket_natCast (m n : Nat) :
    cursorPacket c m n = c.opcCursor ++ [BitVec.ofInt 8 ((m : Int) % 256), BitVec.ofInt 8 ((m : Int) / 256),
      BitVec.ofInt 8 ((n : Int) / 8 % 256), BitVec.ofInt 8 ((n : Int) / 8 / 256)] := by
  rw [cursorPacket, le16_natCast, le16_natCast, List.append_assoc]
  rfl

theorem scrollPacket_natCast (m n k v : Nat) :
    scrollPacket c m n k v = c.opcScroll ++
      [BitVec.ofInt 8 (((m : Int) * c.dispH / 8 + (n : Int) / 8) % 256),
       BitVec.ofInt 8 (((m : Int) * c.dispH / 8 + (n : Int) / 8) / 256),
       BitVec.ofInt 8 ((k : Int) % 256), BitVec.ofInt 8 ((k : Int) / 256), BitVec.ofInt 8 (v : Int)] := by
  rw [natCast_scrollAddr, scrollPacket, le16_natCast, le16_natCast, BitVec.ofInt_natCast, List.append_assoc,
    List.append_assoc]
  rfl

theorem imagePacket_bytes (b : Bitmap) (w h : Nat) :
    imagePacket c b w h = c.opcImage ++ [BitVec.ofNat 8 (w % 256), BitVec.ofNat 8 (w / 256),
      BitVec.ofNat 8 (h / 8 % 256), BitVec.ofNat 8 (h / 8 / 256), c.imgMode] ++ packBytes b w h := by
  simp [imagePacket, le16, lo8, hi8]

/-! ## The checks (R53, R99, R100, R101, R167)

Checks in a row that raise the same cause are one check (`ite_or`); what is left is when it passes. -/

theorem ite_violation_eq_ite_pass {p q : Prop} [Decidable p] [Decidable q] {k : Cause} (hpass : ¬ p ↔ q) :
    (if p then some k else none) = if q then none else some k := by
  rw [← ite_not]
  exact if_congr hpass rfl rfl

theorem violationMoveCursor_eq_ite (x y : Int) :
    violationMoveCursor x y =
      if 0 ≤ x ∧ x ≤ 65535 ∧ 0 ≤ y ∧ y / 8 ≤ 65535 then none else some .fieldRange := by
  rw [violationMoveCursor, ← ite_or]
  exact ite_violation_eq_ite_pass (by omega)

theorem violationSetBrightness_eq_ite (l : Int) :
    violationSetBrightness c l = if 0 ≤ l ∧ l ≤ c.levelDen then none else some .brightnessRange :=
  ite_violation_eq_ite_pass (by omega)

theorem violationScroll_eq_ite (x y times speed : Int) :
    violationScroll c x y times speed =
      if 0 ≤ x ∧ 0 ≤ y ∧ x * c.dispH / 8 + y / 8 ≤ 65535 ∧ 0 ≤ times ∧ times ≤ 65535 ∧ 0 ≤ speed ∧ speed ≤ 255
      then none else some .fieldRange := by
  rw [violationScroll, ← ite_or, ← ite_or, ← ite_or]
  exact ite_violation_eq_ite_pass (by omega)

theorem sized_eq_false_iff {b : Bitmap} {w h : Int} :
    sized b w h = false ↔ (b.w : Int) ≠ w ∨ (b.h : Int) ≠ h ∨ b.pix.length ≠ b.w * b.h := by
  rw [← Bool.not_eq_true, sized_iff, not_and_or, not_and_or]

/-- R100's checks: a negative size is never that of a bitmap, so the field checks have only their upper bounds. -/
theorem violationShowImage_eq_ite (b : Bitmap) (w h : Int) :
    violationShowImage b w h =
      if h % 8 ≠ 0 then some .heightNotMult8
      else if (b.w : Int) ≠ w ∨ (b.h : Int) ≠ h ∨ b.pix.length ≠ b.w * b.h then some .bitmapSize
      else if 65535 < w ∨ 65535 < h / 8 then some .fieldRange
      else none := by
  rw [violationShowImage, ← ite_or]
  refine ite_congr rfl (fun _ => rfl) fun _ => ?_
  refine if_ctx_congr sized_eq_false_iff (fun _ => rfl) fun hsize => if_congr ?_ rfl rfl
  omega

/-! ## The operations (R96 to R103) -/

/-- An issue without a check installs its packet and DONE(OK) (R95). -/
theorem issue_sendOne (hc : s.canIssue = true) (pkt : Bytes) :
    issue s (.ok (sendOne pkt)) = .next { s with seq := [.tx pkt, .done .ok] } := by
  rw [issue_of_canIssue hc]
  rfl

/-- Settles O35: none of the four has a check, and each sends its opcode string. -/
theorem fixedPacketOperations : Obligations.FixedPacketOperations := by
  unfold Obligations.FixedPacketOperations
  intro s hs hopen
  have hc : s.canIssue = true := canIssue_iff.2 ⟨hs, hopen⟩
  exact ⟨(exec_reset s).trans (issue_sendOne hc _), (exec_clear s).trans (issue_sendOne hc _),
    (exec_sleep s).trans (issue_sendOne hc _), (exec_wake s).trans (issue_sendOne hc _)⟩

/-- Settles O36: operands that pass the range checks are not negative, so the packet's fields hold them. -/
theorem moveCursorSendsColumnAndPage : Obligations.MoveCursorSendsColumnAndPage := by
  unfold Obligations.MoveCursorSendsColumnAndPage
  intro s x y hs hopen
  rw [exec_moveCursor, expandMoveCursor, issue_checked (canIssue_iff.2 ⟨hs, hopen⟩), violationMoveCursor_eq_ite]
  split_ifs with hpass
  · obtain ⟨hx, -, hy, -⟩ := hpass
    lift x to Nat using hx
    lift y to Nat using hy
    rw [← cursorPacket_natCast]
    rfl
  · rfl

/-- Settles O37: the byte of the packet is by definition the rounded level, clamped to 1..8. -/
theorem setBrightnessSendsClampedEighths : Obligations.SetBrightnessSendsClampedEighths := by
  unfold Obligations.SetBrightnessSendsClampedEighths
  intro s l hs hopen
  rw [exec_setBrightness, expandSetBrightness, issue_checked (canIssue_iff.2 ⟨hs, hopen⟩),
    violationSetBrightness_eq_ite]
  split_ifs <;> rfl

/-- Settles O41: past the checks the width and the height are the bitmap's own. -/
theorem showImageSendsHeaderAndPackedPixels : Obligations.ShowImageSendsHeaderAndPackedPixels := by
  unfold Obligations.ShowImageSendsHeaderAndPackedPixels
  intro s b w h hs hopen
  rw [exec_showImage, expandShowImage, issue_checked (canIssue_iff.2 ⟨hs, hopen⟩), violationShowImage_eq_ite]
  split_ifs with _ hsize
  · rfl
  · rfl
  · rfl
  · obtain ⟨rfl, rfl, -⟩ : (b.w : Int) = w ∧ (b.h : Int) = h ∧ _ := by simpa only [not_or, not_not] using hsize
    rw [← imagePacket_bytes]
    rfl

/-- Settles O42: operands that pass the range checks are not negative, so the address is that of R55. -/
theorem scrollSendsAddressTimesSpeed : Obligations.ScrollSendsAddressTimesSpeed := by
  unfold Obligations.ScrollSendsAddressTimesSpeed
  intro s x y times speed hs hopen
  rw [exec_scroll, expandScroll, issue_checked (canIssue_iff.2 ⟨hs, hopen⟩), violationScroll_eq_ite]
  split_ifs with hpass
  · obtain ⟨hx, hy, -, ht, -, hsp, -⟩ := hpass
    lift x to Nat using hx
    lift y to Nat using hy
    lift times to Nat using ht
    lift speed to Nat using hsp
    rw [← scrollPacket_natCast]
    rfl
  · rfl

end Sys2Proof.Machine
end

section
/-! # The family of 43_frame_diff: what UPDATE and DISCARD_PREV install

The two scans are characterised by row (`rawStart_eq_some_iff`, `rawEnd_eq_some_iff`, `rawEnd_eq_none_iff`), the ends of
a band without their clamps (`startY_eq`, `endY_eq`). The issue of an UPDATE installs `withIdleStep` around the body of
R121 (`exec_update_installs`); `exec_update_sends` and `exec_update_sends_nothing` say so for its two kinds of body. -/

namespace Sys2Proof.Machine

variable {c : Config} {s : State} {f p : Bitmap} {a e rs re y : Nat} {r : Result}

/-! ## The differing rows (R129) -/

theorem rowDiffers_iff :
    rowDiffers c f p y = true ↔ ∃ x, x < c.dispW ∧ isSet (pixel f x y) ≠ isSet (pixel p x y) := by
  simp [rowDiffers]

theorem rowDiffers_eq_false_iff :
    rowDiffers c f p y = false ↔ ∀ x, x < c.dispW → isSet (pixel f x y) = isSet (pixel p x y) := by
  simp [rowDiffers]

/-! ## The two scans (R124) -/

/-- The last number below n that passes a test. -/
theorem getLast?_filter_range_eq_some {q : Nat → Bool} {n i : Nat} :
    ((List.range n).filter q).getLast? = some i ↔
      i < n ∧ q i = true ∧ ∀ j, i < j → j < n → q j = false := by
  induction n with
  | zero => simp
  | succ n ih =>
    rw [List.range_succ, List.filter_append]
    cases hq : q n with
    | true =>
      have hlast : ((List.range n).filter q ++ [n].filter q).getLast? = some n := by simp [hq]
      rw [hlast, Option.some.injEq]
      constructor
      · rintro rfl
        exact ⟨Nat.lt_succ_self n, hq, by omega⟩
      · rintro ⟨hi, -, hnone⟩
        by_contra hne
        exact absurd (hnone n (by omega) (Nat.lt_succ_self n)) (by simp [hq])
    | false =>
      have hlast : (List.range n).filter q ++ [n].filter q = (List.range n).filter q := by simp [hq]
      rw [hlast, ih]
      constructor
      · rintro ⟨hi, hqi, hnone⟩
        refine ⟨by omega, hqi, fun j hij hj => ?_⟩
        obtain hlt | rfl := Nat.lt_succ_iff_lt_or_eq.1 hj
        · exact hnone j hij hlt
        · exact hq
      · rintro ⟨hi, hqi, hnone⟩
        have hne : i ≠ n := by
          rintro rfl
          simp [hq] at hqi
        exact ⟨by omega, hqi, fun j hij hj => hnone j hij (by omega)⟩

theorem rawStart_eq_some_iff :
    rawStart c f p = some y ↔
      y < c.dispH ∧ rowDiffers c f p y = true ∧ ∀ z, z < y → rowDiffers c f p z = false := by
  rw [rawStart, diffRows, List.head?_filter, List.find?_range_eq_some]
  simp only [List.mem_range, Bool.not_eq_true']
  tauto

theorem rawEnd_eq_some_iff :
    rawEnd c f p = some y ↔
      y < c.dispH ∧ c.revScanLow ≤ y ∧ rowDiffers c f p y = true ∧
      ∀ z, y < z → z < c.dispH → rowDiffers c f p z = false := by
  rw [rawEnd, diffRows, List.filter_filter, getLast?_filter_range_eq_some]
  simp only [Bool.and_eq_true, decide_eq_true_eq, Bool.and_eq_false_iff, decide_eq_false_iff_not, and_assoc]
  refine and_congr_right fun _ => and_congr_right fun hlow => and_congr_right fun _ => ?_
  refine forall_congr' fun z => imp_congr_right fun hz => imp_congr_right fun _ => ?_
  exact or_iff_right (not_not_intro (hlow.trans hz.le))

theorem rawEnd_eq_none_iff :
    rawEnd c f p = none ↔ ∀ y, c.revScanLow ≤ y → y < c.dispH → rowDiffers c f p y = false := by
  simp only [rawEnd, diffRows, List.getLast?_eq_none_iff, List.filter_filter, List.filter_eq_nil_iff, List.mem_range,
    Bool.and_eq_true, decide_eq_true_eq, not_and, Bool.not_eq_true]
  exact forall_congr' fun y => forall_comm

/-- The forward scan stops no later than the reverse one. -/
theorem rawStart_le_rawEnd (hs : rawStart c f p = some rs) (he : rawEnd c f p = some re) : rs ≤ re := by
  obtain ⟨-, -, hfirst⟩ := rawStart_eq_some_iff.1 hs
  obtain ⟨-, -, hdiff, -⟩ := rawEnd_eq_some_iff.1 he
  by_contra hlt
  rw [hfirst re (by omega)] at hdiff
  exact absurd hdiff Bool.false_ne_true

/-- Settles O48: R124's scans and R129's difference, each by its own characterisation. -/
theorem scansFindFirstAndLastDifferingRow : Obligations.ScansFindFirstAndLastDifferingRow := by
  unfold Obligations.ScansFindFirstAndLastDifferingRow
  intro c f p y
  exact ⟨rawStart_eq_some_iff, rawEnd_eq_some_iff, rowDiffers_iff⟩

/-! ## The ends of a band (R125) -/

theorem clamp_zero_of_le {v h : Nat} (hle : v ≤ h) : clamp v 0 h = v := by
  rw [clamp, Nat.max_zero, Nat.min_eq_left hle]

theorem ceil8_eq (v : Nat) : ceil8 v = (v + 7) / 8 * 8 := by
  unfold ceil8
  split <;> omega

theorem ceil8_mod (v : Nat) : ceil8 v % 8 = 0 := by rw [ceil8_eq, Nat.mul_mod_left]

/-- A row of the display, rounded up, is at most H. -/
theorem ceil8_le_dispH (h8 : c.dispH % 8 = 0) (hy : y < c.dispH) : ceil8 y ≤ c.dispH := by
  rw [ceil8_eq]
  omega

/-- Rounding the start to the nearest multiple of 8 is at most rounding a later row up. -/
theorem roundQ_mul_le_ceil8 (ties : RoundTies) (hle : rs ≤ re) : roundQ ties rs 8 * 8 ≤ ceil8 re := by
  obtain ⟨-, hnear⟩ := roundQ_nearest ties rs (den := 8) (by omega)
  rw [ceil8_eq]
  omega

theorem startY_eq (h8 : c.dispH % 8 = 0) (hs : rs < c.dispH) : startY c rs = roundQ c.roundTies rs 8 * 8 :=
  clamp_zero_of_le ((roundQ_mul_le_ceil8 c.roundTies le_rfl).trans (ceil8_le_dispH h8 hs))

theorem endY_eq (h8 : c.dispH % 8 = 0) (he : re < c.dispH) : endY c re = ceil8 re :=
  clamp_zero_of_le (ceil8_le_dispH h8 he)

theorem band_eq_some_iff :
    band c f p = some (a, e) ↔
      ∃ rs re, rawStart c f p = some rs ∧ rawEnd c f p = some re ∧ a = startY c rs ∧ e = endY c re := by
  unfold band
  cases rawStart c f p <;> cases rawEnd c f p <;> simp [eq_comm]

/-- Nothing is to be sent where the reverse scan finds nothing (R123, R124). -/
theorem band_eq_none_of_rawEnd (he : rawEnd c f p = none) : band c f p = none := by
  unfold band
  cases rawStart c f p <;> rw [he]

/-- The band between the rows the two scans find, without the clamps. -/
theorem band_of_scans (h8 : c.dispH % 8 = 0) (hs : rawStart c f p = some rs) (he : rawEnd c f p = some re) :
    band c f p = some (roundQ c.roundTies rs 8 * 8, ceil8 re) := by
  obtain ⟨hrs, -⟩ := rawStart_eq_some_iff.1 hs
  obtain ⟨hre, -⟩ := rawEnd_eq_some_iff.1 he
  exact band_eq_some_iff.2 ⟨rs, re, hs, he, (startY_eq h8 hrs).symm, (endY_eq h8 hre).symm⟩

/-- Settles O49: the start is rounded to the nearest multiple of 8 and the end, a later row, is rounded up. -/
theorem bandIsAlignedAndInside : Obligations.BandIsAlignedAndInside := by
  unfold Obligations.BandIsAlignedAndInside
  intro c f p a e h8 hband
  obtain ⟨rs, re, hs, he, -, -⟩ := band_eq_some_iff.1 hband
  obtain ⟨rfl, rfl⟩ : roundQ c.roundTies rs 8 * 8 = a ∧ ceil8 re = e := by
    simpa [band_of_scans h8 hs he] using hband
  have hle := rawStart_le_rawEnd hs he
  obtain ⟨hre, -⟩ := rawEnd_eq_some_iff.1 he
  exact ⟨Nat.mul_mod_left _ _, ceil8_mod re, roundQ_mul_le_ceil8 _ hle, ceil8_le_dispH h8 hre,
    rs, re, hs, he, hle, rfl, rfl⟩

/-! ## Rows of a frame -/

theorem isFrame_iff :
    isFrame c f = true ↔ f.w = c.dispW ∧ f.h = c.dispH ∧ f.pix.length = c.dispW * c.dispH := by
  rw [isFrame, sized_iff, Nat.cast_inj, Nat.cast_inj]
  constructor <;> rintro ⟨hw, hh, hlen⟩ <;> exact ⟨hw, hh, by rw [hlen, hw, hh]⟩

/-- The crop of R126, pixel by pixel. -/
theorem pixel_rows {x : Nat} (hx : x < f.w) (hy : y < e - a) : pixel (rows f a e) x y = pixel f x (a + y) := by
  have hin : y * f.w + x < (e - a) * f.w :=
    calc y * f.w + x
      _ < (y + 1) * f.w := by rw [Nat.succ_mul]; omega
      _ ≤ (e - a) * f.w := Nat.mul_le_mul_right _ hy
  simp only [pixel, rows, List.getD_eq_getElem?_getD]
  rw [List.getElem?_take_of_lt hin, List.getElem?_drop, Nat.add_mul, Nat.add_assoc]

theorem rows_zero_dispH (hf : isFrame c f = true) : rows f 0 c.dispH = f := by
  obtain ⟨hw, hh, hlen⟩ := isFrame_iff.1 hf
  have hall : f.pix.take (c.dispH * f.w) = f.pix := List.take_of_length_le (by rw [hlen, hw, Nat.mul_comm])
  rw [rows, Nat.sub_zero, Nat.zero_mul, List.drop_zero, hall, ← hh]

/-! ## The body of R121 and its idle step -/

theorem updateBody_none : updateBody c none f = (sendBand c f 0 c.dispH, .fullUpdate) := rfl

theorem updateBody_of_band_none (h : band c f p = none) : updateBody c (some p) f = ([], .noChange) := by
  simp [updateBody, h]

theorem updateBody_of_band (h : band c f p = some (a, e)) :
    updateBody c (some p) f = (sendBand c f a e, .bandUpdate a e) := by
  simp [updateBody, h]

/-- With nothing to send both orders of R127 are the same. -/
theorem withIdleStep_nil (c : Config) (b : Bool) (r : Result) : withIdleStep c b [] r = [.idleStep b, .done r] := by
  unfold withIdleStep
  split <;> rfl

theorem withIdleStep_afterTransmit (h : c.idleOrder = .afterTransmit) (b : Bool) (body : List MicroOp) (r : Result) :
    withIdleStep c b body r = body ++ [.idleStep b, .done r] := by
  simp [withIdleStep, h]

theorem withIdleStep_beforeTransmit (h : c.idleOrder = .beforeTransmit) (b : Bool) (body : List MicroOp)
    (r : Result) : withIdleStep c b body r = .idleStep b :: body ++ [.done r] := by
  simp [withIdleStep, h]

/-! ## The issue of an UPDATE (R121) -/

theorem prevOk_of_none (hprev : s.prev = none) : PrevOk s := by
  simp [PrevOk, hprev]

theorem prevOk_of_some (hprev : s.prev = some p) (hp : isFrame s.cfg p = true) : PrevOk s := by
  simpa [PrevOk, hprev] using hp

/-- Where PREV is absent or a frame, a frame is taken and its list installed. -/
theorem exec_update_installs {body : List MicroOp} (hc : s.canIssue = true) (hp : PrevOk s)
    (hf : isFrame s.cfg f = true) (hbody : updateBody s.cfg s.prev f = (body, r)) :
    exec (.update f) s = .next { s with seq := withIdleStep s.cfg (blank f) body r } := by
  have hpass : violationUpdate s.cfg f = none := by simp [violationUpdate, hf]
  rw [exec_update s f (prevUnreadable_of_prevOk hp f), expandUpdate, issue_checked hc, hpass, hbody]
  rfl

/-- An UPDATE with a band to send, in both orders of R127. -/
theorem exec_update_sends (hc : s.canIssue = true) (hp : PrevOk s) (hf : isFrame s.cfg f = true)
    (hbody : updateBody s.cfg s.prev f = (sendBand s.cfg f a e, r)) :
    (s.cfg.idleOrder = .afterTransmit → exec (.update f) s = .next { s with seq :=
      [.tx (updateCursor s.cfg a), .tx (updateImage s.cfg f a e), .setPrev f, .idleStep (blank f), .done r] }) ∧
    (s.cfg.idleOrder = .beforeTransmit → exec (.update f) s = .next { s with seq :=
      [.idleStep (blank f), .tx (updateCursor s.cfg a), .tx (updateImage s.cfg f a e), .setPrev f, .done r] }) := by
  rw [exec_update_installs hc hp hf hbody]
  refine ⟨fun horder => ?_, fun horder => ?_⟩
  · rw [withIdleStep_afterTransmit horder, sendBand]
    rfl
  · rw [withIdleStep_beforeTransmit horder, sendBand]
    rfl

/-- An UPDATE whose reverse scan finds nothing, whatever the forward scan finds (R123, R124). -/
theorem exec_update_sends_nothing (hc : s.canIssue = true) (hprev : s.prev = some p) (hf : isFrame s.cfg f = true)
    (hp : isFrame s.cfg p = true)
    (hsame : ∀ y, s.cfg.revScanLow ≤ y → y < s.cfg.dispH → rowDiffers s.cfg f p y = false) :
    exec (.update f) s = .next { s with seq := [.idleStep (blank f), .done .noChange] } := by
  have hband : band s.cfg f p = none := band_eq_none_of_rawEnd (rawEnd_eq_none_iff.2 hsame)
  have hbody : updateBody s.cfg s.prev f = ([], .noChange) := by rw [hprev, updateBody_of_band_none hband]
  rw [exec_update_installs hc (prevOk_of_some hprev hp) hf hbody, withIdleStep_nil]

/-- Settles O43: the frame is not compared with PREV, so the check answers (R131). -/
theorem updateOfWrongSizeIsAViolation : Obligations.UpdateOfWrongSizeIsAViolation := by
  unfold Obligations.UpdateOfWrongSizeIsAViolation
  intro s f hs hopen hsize
  have hf : isFrame s.cfg f = false := by simpa [← isFrame_iff] using hsize
  have hread : s.prevUnreadable f = false := by simp [State.prevUnreadable, hf]
  have hfail : violationUpdate s.cfg f = some .dimMismatch := by simp [violationUpdate, hf]
  rw [exec_update s f hread, expandUpdate, issue_checked (canIssue_iff.2 ⟨hs, hopen⟩), hfail]
  rfl

/-- Settles O44: the first band is all rows of the frame, which are the frame itself. -/
theorem firstUpdateSendsTheWholeFrame : Obligations.FirstUpdateSendsTheWholeFrame := by
  unfold Obligations.FirstUpdateSendsTheWholeFrame
  rintro s f _ _ hs hopen hprev hf rfl rfl
  have hbody : updateBody s.cfg s.prev f = (sendBand s.cfg f 0 s.cfg.dispH, .fullUpdate) := by
    rw [hprev, updateBody_none]
  have himg : updateImage s.cfg f 0 s.cfg.dispH = imagePacket s.cfg f s.cfg.dispW s.cfg.dispH := by
    rw [updateImage, rows_zero_dispH hf, Nat.sub_zero]
  have hsends := exec_update_sends (canIssue_iff.2 ⟨hs, hopen⟩) (prevOk_of_none hprev) hf hbody
  rw [himg] at hsends
  exact hsends

/-- Settles O45: no row differs, so none the reverse scan looks at does. -/
theorem identicalFrameSendsNothing : Obligations.IdenticalFrameSendsNothing := by
  unfold Obligations.IdenticalFrameSendsNothing
  intro s f p hs hopen hprev hf hp hsame
  refine exec_update_sends_nothing (canIssue_iff.2 ⟨hs, hopen⟩) hprev hf hp fun y _ hy => ?_
  exact rowDiffers_eq_false_iff.2 fun x hx => hsame x y hx hy

/-- Settles O46: the reverse scan stops at row 1, and no row from there on differs. -/
theorem changeInRowZeroAloneSendsNothing : Obligations.ChangeInRowZeroAloneSendsNothing := by
  unfold Obligations.ChangeInRowZeroAloneSendsNothing
  intro s f p hs hopen hprev hf hp hlow hsame
  refine exec_update_sends_nothing (canIssue_iff.2 ⟨hs, hopen⟩) hprev hf hp fun y hy hyH => ?_
  rw [hlow] at hy
  exact rowDiffers_eq_false_iff.2 fun x hx => hsame x y hx hy hyH

/-- Settles O47: the band of the two scans is the body of the UPDATE, its clamps idle. -/
theorem changedFrameSendsItsBand : Obligations.ChangedFrameSendsItsBand := by
  unfold Obligations.ChangedFrameSendsItsBand
  rintro s f p rs re a e _ _ hs hopen hprev hf hp h8 hstart hend ha he rfl rfl
  have hband : band s.cfg f p = some (a, e) := by rw [band_of_scans h8 hstart hend, ha, he, ceil8_eq]
  have hbody : updateBody s.cfg s.prev f = (sendBand s.cfg f a e, .bandUpdate a e) := by
    rw [hprev, updateBody_of_band hband]
  obtain ⟨hafter, hbefore⟩ :=
    exec_update_sends (canIssue_iff.2 ⟨hs, hopen⟩) (prevOk_of_some hprev hp) hf hbody
  obtain ⟨hw, -, -⟩ := isFrame_iff.1 hf
  exact ⟨hafter, hbefore, fun x y hx hy => pixel_rows (hw ▸ hx) hy⟩

/-- Settles O50: the issue forgets PREV, and its list has no packet. -/
theorem discardPrevForgetsTheFrame : Obligations.DiscardPrevForgetsTheFrame := by
  unfold Obligations.DiscardPrevForgetsTheFrame
  intro s hs hopen
  have hc : State.canIssue { s with prev := none } = true := canIssue_iff.2 ⟨hs, hopen⟩
  rw [exec_discardPrev, issue_of_canIssue hc]
  rfl

end Sys2Proof.Machine
end

section
/-! # The family of 44_idle_fsm: what a due IDLE_STEP does in each state of the idle machine

A due IDLE_STEP is `idleStepEffect` (`exec_idleStep_of_seq`), which has one equation per value of IDLE and of the
sample. The head of SEQ is known, so what it leaves of SEQ is too (`State.pop_of_seq`, `State.replaceHead_of_seq`). -/

namespace Sys2Proof.Machine

variable {c : Config} {s : State} {b : Bool} {rest : List MicroOp} {t0 : Time}

/-! ## A known head of SEQ (R20, R141) -/

theorem State.pop_of_seq {m : MicroOp} (hs : s.seq = m :: rest) : s.pop = { s with seq := rest } := by
  rw [State.pop, hs, List.tail_cons]

theorem State.replaceHead_of_seq {m : MicroOp} (hs : s.seq = m :: rest) (l : List MicroOp) :
    s.replaceHead l = { s with seq := l ++ rest } := by
  rw [State.replaceHead, hs, List.tail_cons]

theorem exec_idleStep_of_seq (hs : s.seq = .idleStep b :: rest) : exec (.idleStep b) s = idleStepEffect b s :=
  execIdleStep_due (by rw [hs, List.head?_cons])

/-! ## The count and the delay (R14, R144, R151) -/

theorem bumpCount_of_cntMax_none (hc : c.cntMax = none) (n : Nat) : bumpCount c n = n + 1 := by
  rw [bumpCount, hc]

theorem bumpCount_of_cntMax_some {m : Nat} (hc : c.cntMax = some m) (n : Nat) :
    bumpCount c n = min (n + 1) m := by
  rw [bumpCount, hc]

theorem delayReached_iff {elapsed : Time} : delayReached c elapsed = true ↔
    ((c.delayNum * c.ticksPerSecond : Nat) : Int) ≤ elapsed * c.delayDen :=
  decide_eq_true_iff

/-! ## The idle step, state by state (R142 to R146) -/

theorem idleStepEffect_false_of_awake (hi : s.idle = .awake) : idleStepEffect false s = .next s.pop := by
  simp [idleStepEffect, hi]

theorem idleStepEffect_true_of_awake (hi : s.idle = .awake) :
    idleStepEffect true s = .next s.startCounting.pop := by
  simp [idleStepEffect, hi]

/-- A blank frame is counted whether or not the delay has passed (R144). -/
theorem idleStepEffect_true_of_countingEmpty (hi : s.idle = .countingEmpty) (ht : s.firstEmptyTime = some t0) :
    idleStepEffect true s = .next (
      if delayReached s.cfg (s.inp.now - t0) then
        s.countFrame.replaceHead [.tx s.cfg.opcSleep, .idleCommit .asleep]
      else s.countFrame.pop) := by
  cases hd : delayReached s.cfg (s.inp.now - t0) <;> simp [idleStepEffect, hi, ht, hd]

theorem idleStepEffect_false_of_countingEmpty (hi : s.idle = .countingEmpty) :
    idleStepEffect false s = .next s.toAwake.pop := by
  simp [idleStepEffect, hi]

theorem idleStepEffect_true_of_asleep (hi : s.idle = .asleep) : idleStepEffect true s = .next s.pop := by
  simp [idleStepEffect, hi]

theorem idleStepEffect_false_of_asleep (hi : s.idle = .asleep) :
    idleStepEffect false s = .next (s.replaceHead [.tx s.cfg.opcWake, .idleCommit .awake]) := by
  simp [idleStepEffect, hi]

/-! ## The statements of the family -/

/-- Settles O51: both samples remove the head; a blank one starts the count. -/
theorem idleStepInAwake : Obligations.IdleStepInAwake := by
  unfold Obligations.IdleStepInAwake
  refine fun s rest hi => ⟨fun hs => ?_, fun hs => ?_⟩
  · rw [exec_idleStep_of_seq hs, idleStepEffect_false_of_awake hi, State.pop_of_seq hs]
  · rw [exec_idleStep_of_seq hs, idleStepEffect_true_of_awake hi, State.pop_of_seq (s := s.startCounting) hs]
    rfl

/-- Settles O52: the new count is `bumpCount`, the same on both sides of the delay. -/
theorem idleStepInCountingEmpty : Obligations.IdleStepInCountingEmpty := by
  unfold Obligations.IdleStepInCountingEmpty
  refine fun s rest t0 hi ht => ⟨fun hs => ⟨bumpCount s.cfg s.emptyCount, ?_, ?_, ?_⟩, fun hs => ?_⟩
  · exact fun hc => bumpCount_of_cntMax_none hc _
  · exact fun m hc => bumpCount_of_cntMax_some hc _
  · have hcount : s.countFrame.seq = .idleStep true :: rest := hs
    rw [exec_idleStep_of_seq hs, idleStepEffect_true_of_countingEmpty hi ht, State.replaceHead_of_seq hcount,
      State.pop_of_seq hcount]
    simp only [delayReached_iff]
    rfl
  · rw [exec_idleStep_of_seq hs, idleStepEffect_false_of_countingEmpty hi, State.pop_of_seq (s := s.toAwake) hs]
    rfl

/-- Settles O53: a blank frame removes the head, another puts the wake packet and its IDLECOMMIT there. -/
theorem idleStepInAsleep : Obligations.IdleStepInAsleep := by
  unfold Obligations.IdleStepInAsleep
  refine fun s rest hi => ⟨fun hs => ?_, fun hs => ?_⟩
  · rw [exec_idleStep_of_seq hs, idleStepEffect_true_of_asleep hi, State.pop_of_seq hs]
  · rw [exec_idleStep_of_seq hs, idleStepEffect_false_of_asleep hi, State.replaceHead_of_seq hs]
    rfl

end Sys2Proof.Machine
end

section
/-! # The family of 60_exceptions: what a refused operand leaves, and the wait on a link that is never ready

A host operation either raises a contract violation or installs a list that is not empty (`exec_raises_or_installs`),
so BUSY says which. A step of a stalled wait keeps all that `SameWait` names (`step_of_stalled`), and a run of them is
an induction over the steps. -/

namespace Sys2Proof.Machine

variable {c : Config} {s t u : State} {i : Instr} {pkt : Bytes} {rest : List MicroOp} {n : Nat}

/-! ## The two outcomes of an issue (R20, R161) -/

theorem Installable.ne_nil {l : List MicroOp} (h : Installable c l) : l ≠ [] := by
  obtain ⟨body, r, -, rfl⟩ := h
  simp

/-- Only DISCARD_PREV writes PREV at its issue (R130). -/
theorem atIssue_of_ne_discardPrev (s : State) (hi : i ≠ .discardPrev) : s.atIssue i = s := by
  cases i with
  | discardPrev => exact absurd rfl hi
  | _ => rfl

/-- DISCARD_PREV has no contract to violate. -/
theorem ne_discardPrev_of_expansionOf_error {prev : Option Bitmap} {k : Cause}
    (h : expansionOf c prev i = some (.error k)) : i ≠ .discardPrev := by
  rintro rfl
  cases h

/-- A host operation that answers a next state raises a contract violation in the state it found, or installs a list
of the installable form. -/
theorem exec_raises_or_installs (hi : ∀ b, i ≠ .idleStep b) (h : exec i s = .next t) :
    s.canIssue = true ∧
      ((∃ k, t = s.raiseContractViolation k) ∨ ∃ l, Installable s.cfg l ∧ t = (s.atIssue i).install l) := by
  obtain ⟨e, hexp, hissue | ⟨hfault, -⟩⟩ := exec_issue_or_fault (s := s) hi
  · obtain ⟨hc, ⟨k, rfl, rfl⟩ | ⟨l, rfl, rfl⟩⟩ := issue_cases (hissue.symm.trans h)
    · rw [atIssue_of_ne_discardPrev s (ne_discardPrev_of_expansionOf_error hexp)] at hc ⊢
      exact ⟨hc, .inl ⟨k, rfl⟩⟩
    · exact ⟨hc, .inr ⟨l, installable_of_expansionOf hexp, rfl⟩⟩
  · cases hfault.symm.trans h

theorem busy_install (s : State) {l : List MicroOp} (hl : l ≠ []) : (s.install l).busy = true := by
  simp [State.busy, hl]

/-- The host has the move only while BUSY is false, and a violation leaves SEQ as it is. -/
theorem busy_raiseContractViolation (hc : s.canIssue = true) (k : Cause) :
    (s.raiseContractViolation k).busy = false := by
  obtain ⟨hs, -⟩ := canIssue_iff.1 hc
  simp [State.busy, hs]

/-- Settles O19: BUSY tells a violation, which writes RESULT alone, from an installed list. -/
theorem contractViolationChangesOnlyResult : Obligations.ContractViolationChangesOnlyResult := by
  unfold Obligations.ContractViolationChangesOnlyResult
  intro s t i hi h
  obtain ⟨hc, ⟨k, rfl⟩ | ⟨l, hl, rfl⟩⟩ := exec_raises_or_installs hi h
  · exact ⟨fun _ => ⟨k, rfl⟩, fun hbusy => by simp [busy_raiseContractViolation hc k] at hbusy⟩
  · refine ⟨fun hidle => by simp [busy_install _ hl.ne_nil] at hidle, fun _ => ?_⟩
    exact ⟨rfl, rfl, rfl, rfl, rfl, rfl, rfl, fun hne => by rw [atIssue_of_ne_discardPrev s hne, State.install_prev]⟩

/-! ## The wait on a link that is not ready (R73, R75, R170) -/

/-- What stays as it is while a TX waits for READY: all but the split of the stream between OUTBUF and WIRE, the polls
in TRACE and the inputs used up. -/
structure SameWait (s t : State) : Prop where
  seq : t.seq = s.seq
  txPhase : t.txPhase = s.txPhase
  result : t.result = s.result
  prev : t.prev = s.prev
  idle : t.idle = s.idle
  stream : t.wire ++ t.outbuf = s.wire ++ s.outbuf

theorem SameWait.refl (s : State) : SameWait s s := ⟨rfl, rfl, rfl, rfl, rfl, rfl⟩

theorem SameWait.trans (h : SameWait s t) (h' : SameWait t u) : SameWait s u :=
  ⟨h'.seq.trans h.seq, h'.txPhase.trans h.txPhase, h'.result.trans h.result, h'.prev.trans h.prev,
    h'.idle.trans h.idle, h'.stream.trans h.stream⟩

/-- A step of a wait that finds READY at 0 is a drain of the channel or one more poll. -/
theorem step_of_stalled (hs : s.seq = .tx pkt :: rest) (hp : s.txPhase = .pollPre ∨ s.txPhase = .pollPost)
    (hr : s.inp.ready = false) : ∃ t, step s = .next t ∧ SameWait s t := by
  cases hd : s.drainDue with
  | true => exact ⟨_, step_of_drain hd, rfl, rfl, rfl, rfl, rfl, drained_stream s s.inp.drain⟩
  | false =>
    obtain ⟨-, -, hstall⟩ := pollSamplesReadyOnce s pkt rest hd hs
    exact ⟨_, hstall hp hr, rfl, rfl, rfl, rfl, rfl, rfl⟩

/-- A run at each of whose steps READY is 0 leaves the TX waiting where it was; by induction on the steps. -/
theorem run_of_stalled (hs : s.seq = .tx pkt :: rest) (hp : s.txPhase = .pollPre ∨ s.txPhase = .pollPost)
    (hr : ∀ k u, k < n → Sys2Proof.core.run k s = .next u → (State.inp u).ready = false) :
    ∃ t : State, Sys2Proof.core.run n s = .next t ∧ SameWait s t := by
  induction n generalizing s with
  | zero => exact ⟨s, rfl, .refl s⟩
  | succ n ih =>
    obtain ⟨v, hv, hsame⟩ := step_of_stalled hs hp (hr 0 s n.succ_pos rfl)
    have hrun : ∀ k, Sys2Proof.core.run (k + 1) s = Sys2Proof.core.run k v := fun k => by rw [core_run_succ, hv]
    have hready : ∀ k u, k < n → Sys2Proof.core.run k v = .next u → (State.inp u).ready = false :=
      fun k u hk hu => hr (k + 1) u (Nat.succ_lt_succ hk) ((hrun k).trans hu)
    obtain ⟨t, ht, hrest⟩ := ih (hsame.seq.trans hs) (hsame.txPhase ▸ hp) hready
    exact ⟨t, (hrun n).trans ht, hsame.trans hrest⟩

/-- Settles O30: the run keeps the wait, and BUSY is true because the TX stays in SEQ. -/
theorem linkNeverReadyWaitsForEver : Obligations.LinkNeverReadyWaitsForEver := by
  unfold Obligations.LinkNeverReadyWaitsForEver
  intro n s pkt rest hs hp hr
  obtain ⟨t, hrun, h⟩ := run_of_stalled hs hp hr
  have hbusy : t.busy = true := by simp [State.busy, h.seq, hs]
  exact ⟨t, hrun, h.seq, h.txPhase, h.result, hbusy, h.prev, h.idle, h.stream⟩

end Sys2Proof.Machine
end
